-- ==== Sys2Proof/Word.lean ====
section
/-! DEFINITION. The words of the links, the table entries and the head numbers of the BV-410. -/

namespace Sys2Proof

/-- One byte of the feed or the return link (R170). -/
abbrev Byte := BitVec 8

/-- A two-byte quantity of the link kept as bits: a command tag, a CRC (R174, R177). -/
abbrev Half := BitVec 16

/-- A table entry, kept as the 32-bit word the link carries (R1, R2). -/
abbrev Entry := BitVec 32

/-- A head, 0 to 3 (00_scope.md, "Numbering"). -/
abbrev Head := Fin 4

end Sys2Proof
end

