-- ==== Sys2Proof/Syntax.lean ====
section
/-! DEFINITION. The commands and events of the BV-410: one constructor per row of spec/opcode_table.json. -/

namespace Sys2Proof

/-- The steps of the part (95_what_each_step_holds.md). A command row is the taking of a good COMMAND
frame with that code: it carries the frame's tag and its parameter bytes, of whatever length, so that
the length check of R180 belongs to the row. -/
inductive Instr where
  /-- 01h (R190). -/
  | identify (tag : Half) (params : List Byte)
  /-- 02h (R202). -/
  | statusSnapshot (tag : Half) (params : List Byte)
  /-- 03h (R191). -/
  | reset (tag : Half) (params : List Byte)
  /-- 10h (R27). -/
  | timingSet (tag : Half) (params : List Byte)
  /-- 20h (R18). -/
  | tableDiscard (tag : Half) (params : List Byte)
  /-- 21h (R12). -/
  | tableCommit (tag : Half) (params : List Byte)
  /-- 22h (R17). -/
  | tableErase (tag : Half) (params : List Byte)
  /-- 23h (R19). -/
  | tableReadStart (tag : Half) (params : List Byte)
  /-- 24h (R20). -/
  | tableReadContinue (tag : Half) (params : List Byte)
  /-- 30h (R96). -/
  | jobDefine (tag : Half) (params : List Byte)
  /-- 31h (R98). -/
  | arm (tag : Half) (params : List Byte)
  /-- 32h (R100). -/
  | disarm (tag : Half) (params : List Byte)
  /-- 33h (R101). -/
  | start (tag : Half) (params : List Byte)
  /-- 34h (R102). -/
  | stop (tag : Half) (params : List Byte)
  /-- 35h (R106). -/
  | abort (tag : Half) (params : List Byte)
  /-- 36h (R103). -/
  | release (tag : Half) (params : List Byte)
  /-- 37h (R115). -/
  | headPark (tag : Half) (params : List Byte)
  /-- 38h (R66). -/
  | trackDiscard (tag : Half) (params : List Byte)
  /-- 40h (R140). -/
  | calibrate (tag : Half) (params : List Byte)
  /-- 41h (R146). -/
  | calMeasure (tag : Half) (params : List Byte)
  /-- 42h (R154). -/
  | calApply (tag : Half) (params : List Byte)
  /-- 43h (R151). -/
  | calCancel (tag : Half) (params : List Byte)
  /-- 44h (R119). -/
  | stylusWear (tag : Half) (params : List Byte)
  /-- 50h (R198). -/
  | noticeMask (tag : Half) (params : List Byte)
  /-- 51h (R200). -/
  | noticeSkip (tag : Half) (params : List Byte)
  /-- 52h (R205). -/
  | countersRead (tag : Half) (params : List Byte)
  /-- 53h (R206). -/
  | countersClear (tag : Half) (params : List Byte)
  /-- A COMMAND frame whose code no command carries (R180). -/
  | unknownCommand (code : Byte) (tag : Half)
  /-- A COMMAND frame whose payload is shorter than three bytes (R181). -/
  | shortCommandPayload (payload : List Byte)
  /-- A good TRACK_PART frame: the head byte of its header and its payload (R51). -/
  | trackPart (headByte : Byte) (payload : List Byte)
  /-- A good TABLE_DATA frame whose OPEN flag is set (R8). -/
  | tableDataOpen (payload : List Byte)
  /-- A good TABLE_DATA frame whose OPEN flag is clear, or too short to hold its flags (R9, R179). -/
  | tableData (payload : List Byte)
  /-- A byte arriving on the feed link (R171). -/
  | feedByte (b : Byte)
  /-- A good frame of a kind that is not 11h, 12h or 13h (R175). -/
  | kindError (kind : Byte)
  /-- More than 50 us without a byte (R172). -/
  | byteIntervalTimeout
  /-- The last byte of the frame on the return line has been sent (R188). -/
  | returnFrameSent
  /-- The timed copy of a commit ends (R15). -/
  | commitCompletion
  /-- A forward encoder count, taken at `time` in us (R29). -/
  | forwardCount (time : Nat)
  /-- A reverse encoder count (R34). -/
  | reverseCount
  /-- An index pulse, taken at `time` in us (R30). -/
  | indexPulse (time : Nat)
  /-- The stall timer expires (R38). -/
  | stall
  /-- The measurement timer of a head expires (R145). -/
  | measurementTimeout (head : Head)
  /-- ESTOP_N changes to `level`; low is asserted (R107). -/
  | estop (level : Bool)
  /-- FEED_FAULT goes to `level`; high is asserted (R44). -/
  | feedFault (level : Bool)
  /-- The filtered PS lines change to `bank` (R157, R163). -/
  | bankChange (bank : BitVec 3)
  /-- A strobe on the monitor port of a head (R123, R127). -/
  | monitorSample (head : Head) (value : BitVec 10) (tag : BitVec 8)
  /-- RESET_N is asserted, and the assertion is taken (R194). -/
  | resetNAssert
  /-- RESET_N returns to its deasserted level (R194). -/
  | resetNRelease
  /-- Power comes on (R195). -/
  | powerOn
  /-- The supplies are in range and the clock has run for 1 ms (R195). -/
  | powerOnRelease
  /-- A supply falls below its operating range (R195). -/
  | supplyFall
deriving DecidableEq, Repr

end Sys2Proof
end

