-- ==== Sys2Proof/Config.lean ====
section
/-! DEFINITION. The fixed capacities of the part and the one value its manual leaves open. -/

namespace Sys2Proof.Config

/-- Frames the reply queue holds besides the one on the line (R186). -/
def replyCapacity : Nat := 8

/-- Frames the notice queue holds besides the one on the line (R187). -/
def noticeCapacity : Nat := 32

/-- Entries of a stroke history (R124). -/
def historyCapacity : Nat := 16

/-- Buffers of a Track Queue (R47). -/
def queueCapacity : Nat := 4

/-- The missing run that raises MONITOR_LOST (R125). -/
def missingLimit : Nat := 64

/-- Entries one read-back reply gives (R19). -/
def readBlock : Nat := 64

/-- Largest payload of a frame (R173). -/
def maxPayload : Nat := 4096

/-- The period saturates here (R36). -/
def maxPeriod : Nat := 16777215

/-- A 24-bit counter saturates here (R204). -/
def maxCellCount : Nat := 16777215

/-- FREE VALUE (log entry 8). A forward count is handed to all four channels; when a stroke of it raises
MONITOR_LOST under ABORT_JOB, the manual does not say whether the abort is taken before or after the
strokes the same count causes on the later heads (R79, R133). True: before. The argument is the draw
counter `State.choices`. -/
opaque abortFirst : Nat → Bool

end Sys2Proof.Config
end

