-- ==== Sys2Proof/Machine/State.lean ====
section
/-! DEFINITION. The state of the BV-410 as plain data, block by block, its stop reasons and its value
after a full reset. -/

namespace Sys2Proof.Machine

/-- One value for each of the four heads (00_scope.md, "Numbering"). -/
structure PerHead (α : Type) where
  h0 : α
  h1 : α
  h2 : α
  h3 : α
deriving DecidableEq, Repr

/-- The same value for every head. -/
def PerHead.const {α : Type} (a : α) : PerHead α := ⟨a, a, a, a⟩

/-- A set of heads: one byte on the link, bit h for head h (R197). -/
abbrev HeadSet := PerHead Bool

/-! ## Table Store -/

/-- The kinds of slot (R1). -/
inductive SlotKind where
  | gradation | screen | runout | headcal | budget
deriving DecidableEq, Repr

/-- The states of a slot (R5). -/
inductive SlotState where
  | empty | committing | valid | bound
deriving DecidableEq, Repr

/-- One slot: its state, its contents (the fill is their number) and its checksum (R5, R6). -/
structure Slot where
  state : SlotState
  entries : List Entry
  sum1 : Nat
  sum2 : Nat
deriving DecidableEq, Repr

/-- An EMPTY slot holds no contents, and its checksum is zero in both sums (R5). -/
def Slot.blank : Slot := ⟨.empty, [], 0, 0⟩

/-- The read cursor: its slot and the offset of the next entry (R19). -/
structure Cursor where
  slot : Nat
  offset : Nat
deriving DecidableEq, Repr

/-- The Table Store (R1, R7, R19). The staging fill is the number of staged entries (log entry 22). -/
structure Store where
  slots : Vector Slot 37
  owner : Option Nat
  image : List Entry
  commit : Option Nat
  cursor : Option Cursor
deriving DecidableEq, Repr

/-! ## Cylinder Timing Unit -/

/-- The index source of the timing settings (R27). -/
inductive IndexSource where
  | line | count | auto
deriving DecidableEq, Repr

/-- A resolved index source (R28). -/
inductive ResolvedSource where
  | line | count
deriving DecidableEq, Repr

/-- The seven timing settings (R27). -/
structure TimingSettings where
  counts : Nat
  source : IndexSource
  slipTolerance : Nat
  nominalPeriod : Nat
  softWindow : Nat
  hardWindow : Nat
  stallTimeout : Nat
deriving DecidableEq, Repr

/-- The Cylinder Timing Unit (R45). -/
structure Ctu where
  settings : Option TimingSettings
  resolved : Option ResolvedSource
  autoCount : Nat
  angle : Nat
  aligned : Bool
  period : Nat
  periodValid : Bool
  reference : Option Nat
  stallRunning : Bool
  holdCount : Nat
  feedEn : Bool
deriving DecidableEq, Repr

/-! ## Track Queues -/

/-- The state of a record, with what it holds from completion and while CUTTING (R47). -/
inductive RecordState where
  | filling
  | complete (mean : Nat)
  | cutting (mean sum1 sum2 : Nat)
deriving DecidableEq, Repr

/-- A track record; its filled count is the number of its samples (R47). -/
structure TrackRecord where
  number : Nat
  total : Nat
  final : Bool
  signature : Option (Nat × Nat)
  samples : List Nat
  state : RecordState
deriving DecidableEq, Repr

/-- Why a part is refused (R52). -/
inductive RefusalReason where
  | length | notEngaged | tag | order | duplicate | gap | badField | pastFinal | sequence | queueFull
deriving DecidableEq, Repr

/-- The last refusal of a queue (R50). -/
structure PartRefusal where
  reason : RefusalReason
  track : Nat
  offset : Nat
deriving DecidableEq, Repr

/-- A Track Queue (R47, R50). A buffer that holds no record is FREE. -/
structure Queue where
  records : List TrackRecord
  expected : Nat
  start : Nat
  finalSeen : Bool
  lastRefusal : Option PartRefusal
deriving DecidableEq, Repr

/-- The queue counts of FILLING, COMPLETE and CUTTING records (R50). -/
structure Counts where
  filling : Nat
  complete : Nat
  cutting : Nat
deriving DecidableEq, Repr

/-! ## Channels -/

/-- The channel states (R108). -/
inductive ChannelState where
  | off | calibrating | primed | cutting | waiting | done | parked | halted
deriving DecidableEq, Repr

/-- The stop causes (R118). NONE is the absence of one. -/
inductive StopCause where
  | finalDone | stopCommand | abortCommand | parkCommand | emergency | budgetShed | feedFault
  | stylusLift | stylusDeviation | monitorLost | starved | speed | encoderSlip | encoderReverse
  | cylinderStall
deriving DecidableEq, Repr

/-- A channel: its state and outputs (R108, R120), its computing state (R71) and its last stop cause
(R118). `strobes` counts the pulses given on DRVh_STB and is the model's own (log entry 20). -/
structure Channel where
  state : ChannelState
  engage : Bool
  accumulator : Nat
  cellIndex : Nat
  tag : BitVec 8
  wear : Nat
  wearSub : BitVec 16
  lastStop : Option StopCause
  portWord : BitVec 12
  portTag : BitVec 8
  strobes : Nat
deriving DecidableEq, Repr

/-- The account of an interrupted track (R114). -/
structure Account where
  number : Nat
  cells : Nat
  sum1 : Nat
  sum2 : Nat
  short : Bool
deriving DecidableEq, Repr

/-- What the Cell Engine gives for one stroke: the drive word, the closed flag and the clamps it counts
(R75, R92). -/
structure Stroke where
  word : Nat
  closed : Bool
  lowClamp : Bool
  highClamp : Bool
  codeClamp : Bool
deriving DecidableEq, Repr

/-! ## Job Controller -/

/-- The job states (R97). -/
inductive JobState where
  | setup | armed | running | stopping | ended | aborted
deriving DecidableEq, Repr

/-- The job results (R104). -/
inductive JobResult where
  | complete | partialEnd | stopped
deriving DecidableEq, Repr

/-- The fault policies (R95). -/
inductive FaultPolicy where
  | abortJob | parkHead
deriving DecidableEq, Repr

/-- What the job record holds for a head of its set (R95). -/
structure HeadEntry where
  gradation : Nat
  runout : Option Nat
  priority : Nat
  policy : FaultPolicy
deriving DecidableEq, Repr

/-- The job record; the head set is the heads that have an entry (R95). -/
structure JobRecord where
  tag : Nat
  screen : Nat
  heads : PerHead (Option HeadEntry)
  startTrack : Nat
  holdLimit : Nat
  skipN : Nat
  skipM : Nat
deriving DecidableEq, Repr

/-- The Job Controller (R95, R97). -/
structure Job where
  record : Option JobRecord
  state : JobState
  result : Option JobResult
  abortCause : Option StopCause
deriving DecidableEq, Repr

/-! ## Cut Monitor -/

/-- An entry of a stroke history (R124). -/
structure HistoryEntry where
  tag : BitVec 8
  word : Nat
  closed : Bool
  matched : Bool
deriving DecidableEq, Repr

/-- The six monitor parameters (R126). -/
structure MonitorParams where
  gain : Nat
  tolerance : Nat
  liftThreshold : Nat
  dragThreshold : Nat
  liftLimit : Nat
  deviationLimit : Nat
deriving DecidableEq, Repr

/-- The Cut Monitor of one head (R124, R126, R130). -/
structure Monitor where
  history : List HistoryEntry
  liftRun : Nat
  deviationRun : Nat
  missingRun : Nat
  params : Option MonitorParams
deriving DecidableEq, Repr

/-- The stroke classes (R128, R129). -/
inductive StrokeClass where
  | good | lift | overcut | undercut | drag
deriving DecidableEq, Repr

/-- The stylus faults (R131). -/
inductive StylusFault where
  | stylusLift | stylusDeviation | monitorLost
deriving DecidableEq, Repr

/-- The action a fault takes (R131, R132). -/
inductive FaultAction where
  | none | parked | aborted | calibrationFailed
deriving DecidableEq, Repr

/-! ## Calibration Unit -/

/-- The parameters and working copies of a calibration in progress (R139): C of the screen slot and the
sixteen HEADCAL entries. -/
structure CalSetup where
  codeLo : Nat
  codeHi : Nat
  cellsPerLevel : Nat
  wMin : Nat
  wMax : Nat
  agreeTol : Nat
  timeout : Nat
  cells : Nat
  headcal : List Entry
deriving DecidableEq, Repr

/-- The phase of a calibration record. The parameters and copies are present exactly while a calibration
is in progress, so the phases in progress carry them (R139). -/
inductive CalPhase where
  | none
  | waitIndex (c : CalSetup)
  | cut (c : CalSetup)
  | awaitMeasure (c : CalSetup)
deriving DecidableEq, Repr

/-- A proposed gain and base (R139). -/
structure Proposal where
  gain : Nat
  base : Int
deriving DecidableEq, Repr

/-- A calibration record (R139). A running measurement timer holds the seconds it was started with (log
entry 25). -/
structure Calibration where
  phase : CalPhase
  lowWidth : Option Nat
  highWidth : Option Nat
  timer : Option Nat
  proposal : Option Proposal
deriving DecidableEq, Repr

/-- The causes of a calibration failure (R149). -/
inductive CalCause where
  | short | fitOrder | fitRange | timeout | cancelled | emergency | cylinderStall | encoderReverse
  | encoderSlip | fault
deriving DecidableEq, Repr

/-- The value out of range at FIT_RANGE (R148, R178). -/
inductive RangeValue where
  | gain (v : Nat)
  | base (v : Int)
deriving DecidableEq, Repr

/-- What a failure of the fit or by a stylus fault adds to CAL_FAILED (R148, R149). -/
structure CalDetail where
  depths : Option (Nat × Nat)
  range : Option RangeValue
  fault : Option StylusFault
deriving DecidableEq, Repr

/-! ## Drive Budget Unit -/

/-- The Drive Budget Unit (R157, R160, R165). -/
structure Dbu where
  bank : BitVec 3
  demand : PerHead Nat
  candidates : HeadSet
deriving DecidableEq, Repr

/-- One head removed by the shedding order: its demand, its rank and the sum left after its removal
(R161). -/
structure Shed where
  head : Head
  demand : Nat
  rank : Nat
  left : Nat
deriving DecidableEq, Repr

/-- The occasions of a shed (R164). -/
inductive ShedOccasion where
  | go | bankChange
deriving DecidableEq, Repr

/-! ## Feed Link Interface -/

/-- The receive side with the bytes it has stored (R171). HEADER keeps the header bytes in order; the
later states keep the kind and head bytes, the payload, and the first CRC byte once it has come. -/
inductive Receive where
  | hunt
  | sync
  | header (bytes : List Byte)
  | payload (kind head : Byte) (length : Nat) (bytes : List Byte)
  | check (kind head : Byte) (bytes : List Byte) (crcHigh : Option Byte)
deriving DecidableEq, Repr

/-- A frame of the return link as it was built (R177, R185). -/
structure ReturnFrame where
  kind : Byte
  head : Byte
  payload : List Byte
  crc : Half
deriving DecidableEq, Repr

/-- The Feed Link Interface (R193): `line` is the frame being sent, if any. -/
structure Fli where
  receive : Receive
  replies : List ReturnFrame
  notices : List ReturnFrame
  line : Option ReturnFrame
deriving DecidableEq, Repr

/-- The statuses of a reply (R177). -/
inductive Status where
  | ok | okClamped | started | state | busy | badParam | length | unknown
  | bound | empty | noStaging | stagingBusy | storeBusy | gap | invalid | noCursor
  | headBusy | emergency | timing | speed | geometry | budget | staging
  | notAwaiting | outOfWindow | disagree | noneFilling
deriving DecidableEq, Repr

/-- The commands of the part (R182). -/
inductive CommandName where
  | identify | statusSnapshot | reset | timingSet | tableDiscard | tableCommit | tableErase
  | tableReadStart | tableReadContinue | jobDefine | arm | disarm | start | stop | abort | release
  | headPark | trackDiscard | calibrate | calMeasure | calApply | calCancel | stylusWear
  | noticeMask | noticeSkip | countersRead | countersClear
deriving DecidableEq, Repr

/-! ## Report Unit -/

/-- The nine 24-bit cell counters of a head (R204). -/
structure CellCounters where
  closed : Nat
  lowClamp : Nat
  highClamp : Nat
  codeClamp : Nat
  lift : Nat
  deviation : Nat
  late : Nat
  missing : Nat
  duplicate : Nat
deriving DecidableEq, Repr

/-- The counters of a head: the nine cell counters, the five 8-bit cyclic counters and the captured
maximum error (R204). -/
structure HeadCounters where
  cells : CellCounters
  shortTracks : BitVec 8
  mismatches : BitVec 8
  refusedParts : BitVec 8
  toneClamped : BitVec 8
  stylusFaults : BitVec 8
  maxError : Nat
deriving DecidableEq, Repr

/-- The skip counters of a head (R199). -/
structure SkipCounters where
  trackDone : Nat
  deviation : Nat
deriving DecidableEq, Repr

/-- The Report Unit (R208). Bit c - 1 of `mask` and of `kindFlags` belongs to the kind of code c. -/
structure Rpt where
  mask : BitVec 32
  skipN : Nat
  skipM : Nat
  skips : PerHead SkipCounters
  kindFlags : BitVec 19
  noticeLost : Bool
  replyLost : Bool
  linkError : Bool
  fullReset : Bool
  heads : PerHead HeadCounters
  crcErrors : BitVec 8
  lengthErrors : BitVec 8
  kindErrors : BitVec 8
  slips : BitVec 8
  reverses : BitVec 8
  holdTotal : Nat
  maxDeviation : Nat
deriving DecidableEq, Repr

/-- The classes of a link error (R176). -/
inductive LinkErrorClass where
  | crc | length | kind
deriving DecidableEq, Repr

/-- The events the blocks post to the Report Unit, one constructor per notice kind in the order of the
kind codes, each with the contents its owning rule lists (R197). -/
inductive Event where
  | jobState (tag : Nat) (state : JobState) (result : Option JobResult) (cause : Option StopCause)
  | channelState (head : Head) (state : ChannelState) (cause : Option StopCause)
      (track : Option Account) (completeFreed fillingFreed : Nat) (counts : Counts)
  | trackDone (head : Head) (track cells sum1 sum2 : Nat)
      (signed isMatch short final : Bool) (counts : Counts)
  | partRefused (headByte : Byte) (head : Option Head) (track offset : Nat)
      (reason : RefusalReason) (resumeTrack resumeOffset : Nat)
  | signatureMismatch (head : Head) (track expected1 expected2 sum1 sum2 : Nat)
  | hold (data speed : Bool) (lacking : HeadSet) (holdCount : Nat)
  | speed (period deviation : Nat) (hard : Bool)
  | slip (slip : Int)
  | stall (timeout : Nat)
  | encoderReverse (counter : BitVec 8) (angle : Nat)
  | shed (head : Head) (priority demand : Nat) (occasion : ShedOccasion) (bank : BitVec 3)
      (budget before rank left : Nat)
  | bankChange (previous new : BitVec 3) (budget sum : Nat) (sheds candidates : HeadSet)
  | deviation (head : Head) (tag : BitVec 8) (strokeClass : StrokeClass) (value : Nat)
      (depth : Option (Nat × Int)) (run : Nat)
  | stylusFault (head : Head) (fault : StylusFault) (run : Nat) (tag : BitVec 8)
      (value : Option Nat) (state : ChannelState) (action : FaultAction)
  | commitDone (slot sum1 sum2 : Nat)
  | calCutDone (head : Head) (cells codeLo codeHi cellsPerLevel timeout : Nat)
  | calResult (head : Head) (lowWidth highWidth depthLo depthHi gain : Nat) (base : Int)
      (formerGain : Nat) (formerBase : Int)
  | calFailed (head : Head) (cause : CalCause) (phase : CalPhase) (lowWidth highWidth cells : Option Nat)
      (detail : CalDetail)
  | estop (level : Bool)
deriving DecidableEq, Repr

/-! ## Lines -/

/-- The input lines whose level the part acts on, and whether it holds itself in reset for its supplies
(R107, R44, R157, R194, R195). -/
structure Lines where
  estopN : Bool
  feedFault : Bool
  ps : BitVec 3
  resetN : Bool
  powerHeld : Bool
deriving DecidableEq, Repr

/-! ## The whole part -/

/-- The state of the part, block by block, and the queue of the events that wait. `choices` counts the
draws of the free value of log entry 8 and is the model's own. -/
structure State where
  store : Store
  ctu : Ctu
  job : Job
  channels : PerHead Channel
  queues : PerHead Queue
  monitors : PerHead Monitor
  cals : PerHead Calibration
  dbu : Dbu
  fli : Fli
  rpt : Rpt
  lines : Lines
  choices : Nat
  pending : List Instr
deriving DecidableEq, Repr

/-- The part has no behaviour that stops it: there is no fault, and so nothing raises one. -/
inductive Fault where
deriving DecidableEq, Repr

/-- Why a step may be refused. -/
inductive Refusal where
  /-- Raised by an arm of `exec` that has no meaning yet; safe. No arm raises it now. -/
  | notModelled (mnemonic : String)
deriving DecidableEq, Repr

/-! ## Values after a full reset -/

/-- R23. -/
def Store.afterReset : Store := ⟨Vector.replicate 37 Slot.blank, none, [], none, none⟩

/-- R45. -/
def Ctu.afterReset : Ctu := ⟨none, none, 0, 0, false, 0, false, none, false, 0, false⟩

/-- R121: no record, SETUP, no result and no abort cause. -/
def Job.afterReset : Job := ⟨none, .setup, none, none⟩

/-- R93, R121; the strobe count is the model's own (log entry 20). -/
def Channel.afterReset : Channel := ⟨.off, false, 0, 0, 0, 0, 0, none, 0, 0, 0⟩

/-- R70. -/
def Queue.afterReset : Queue := ⟨[], 0, 0, false, none⟩

/-- R137. -/
def Monitor.afterReset : Monitor := ⟨[], 0, 0, 0, none⟩

/-- R155. -/
def Calibration.afterReset : Calibration := ⟨.none, none, none, none, none⟩

/-- R168: no demand and no candidate; the bank is the value of the lines at the end of the reset. -/
def Dbu.afterReset (bank : BitVec 3) : Dbu := ⟨bank, PerHead.const 0, PerHead.const false⟩

/-- R193. -/
def Fli.afterReset : Fli := ⟨.hunt, [], [], none⟩

/-- Every counter of R204 at zero (R208). -/
def HeadCounters.zero : HeadCounters := ⟨⟨0, 0, 0, 0, 0, 0, 0, 0, 0⟩, 0, 0, 0, 0, 0, 0⟩

/-- R208: all nineteen kinds enabled, N and M 1, everything else zero; `flag` is the FULL_RESET flag,
which is set at the end of the reset. -/
def Rpt.afterReset (flag : Bool) : Rpt :=
  { mask := 0x7ffff, skipN := 1, skipM := 1, skips := PerHead.const ⟨0, 0⟩
    kindFlags := 0, noticeLost := false, replyLost := false, linkError := false, fullReset := flag
    heads := PerHead.const HeadCounters.zero
    crcErrors := 0, lengthErrors := 0, kindErrors := 0, slips := 0, reverses := 0
    holdTotal := 0, maxDeviation := 0 }

/-- The part right after a full reset has ended (R194). The levels of the lines are the model's choice
(log entry 4): ESTOP_N and RESET_N deasserted, FEED_FAULT low, PS 000, supplies in range. -/
def State.reset : State :=
  { store := Store.afterReset
    ctu := Ctu.afterReset
    job := Job.afterReset
    channels := PerHead.const Channel.afterReset
    queues := PerHead.const Queue.afterReset
    monitors := PerHead.const Monitor.afterReset
    cals := PerHead.const Calibration.afterReset
    dbu := Dbu.afterReset 0
    fli := Fli.afterReset
    rpt := Rpt.afterReset true
    lines := { estopN := true, feedFault := false, ps := 0, resetN := true, powerHeld := false }
    choices := 0
    pending := [] }

end Sys2Proof.Machine
end

