-- ==== Sys2Proof/Machine/Operands.lean ====
section
/-! DEFINITION. Reading operands: the four heads, big-endian fields of a payload, table entries and the
fields of the table kinds. -/

namespace Sys2Proof.Machine

/-! ## Heads -/

/-- The value of a head. -/
def PerHead.get {α : Type} (p : PerHead α) (h : Head) : α :=
  match h with
  | 0 => p.h0
  | 1 => p.h1
  | 2 => p.h2
  | 3 => p.h3

/-- The values with that of one head replaced. -/
def PerHead.set {α : Type} (p : PerHead α) (h : Head) (a : α) : PerHead α :=
  match h with
  | 0 => { p with h0 := a }
  | 1 => { p with h1 := a }
  | 2 => { p with h2 := a }
  | 3 => { p with h3 := a }

/-- Every value changed by a function of its head and itself. -/
def PerHead.mapIdx {α β : Type} (f : Head → α → β) (p : PerHead α) : PerHead β :=
  ⟨f 0 p.h0, f 1 p.h1, f 2 p.h2, f 3 p.h3⟩

/-- The values a function gives for the four heads. -/
def PerHead.ofFn {α : Type} (f : Head → α) : PerHead α := ⟨f 0, f 1, f 2, f 3⟩

/-- The four heads in ascending order. -/
def allHeads : List Head := [0, 1, 2, 3]

/-- A head number of a payload; above 3 it names no head. -/
def headOf (n : Nat) : Option Head := if h : n < 4 then some ⟨n, h⟩ else none

/-- A step taken for the heads 0 to 3 in ascending order (R111, R117, R164). -/
def forHeads {σ : Type} (f : Head → σ → σ) (s : σ) : σ := f 3 (f 2 (f 1 (f 0 s)))

/-! ## Bytes -/

/-- Bytes read as one unsigned number, most significant byte first (R177). -/
def beNat (bytes : List Byte) : Nat := bytes.foldl (fun n b => n * 256 + b.toNat) 0

/-- The unsigned field of `len` bytes at `off` of a payload (R177, R182). -/
def field (bytes : List Byte) (off len : Nat) : Nat := beNat ((bytes.drop off).take len)

/-- A number in one byte (R177, R178). -/
def be8 (n : Nat) : List Byte := [BitVec.ofNat 8 n]

/-- A number in two bytes, high byte first. -/
def be16 (n : Nat) : List Byte := [BitVec.ofNat 8 (n / 256), BitVec.ofNat 8 n]

/-- A number in three bytes, high byte first. -/
def be24 (n : Nat) : List Byte := BitVec.ofNat 8 (n / 65536) :: be16 n

/-- A number in four bytes, high byte first. -/
def be32 (n : Nat) : List Byte := BitVec.ofNat 8 (n / 16777216) :: be24 n

/-- A signed number in two bytes, in two's complement (R178). -/
def beInt16 (i : Int) : List Byte := be16 (BitVec.ofInt 16 i).toNat

/-- A signed number in four bytes, in two's complement (R178). -/
def beInt32 (i : Int) : List Byte := be32 (BitVec.ofInt 32 i).toNat

/-- A yes-or-no item (R178). -/
def flagByte (b : Bool) : List Byte := if b then [1] else [0]

/-- An item that may be absent: a presence byte, then its `width` bytes, zeros when it is not given
(R178). -/
def optionalItem (width : Nat) (item : Option (List Byte)) : List Byte :=
  match item with
  | some bytes => 1 :: bytes
  | none => 0 :: List.replicate width 0

/-- A slot number that may be none: FFh for none (R178). -/
def slotByte (slot : Option Nat) : List Byte := be8 (slot.getD 0xff)

/-- A set of heads in one byte, bit h for head h (R197). -/
def headSetByte (p : HeadSet) : List Byte :=
  be8 (p.h0.toNat + 2 * p.h1.toNat + 4 * p.h2.toNat + 8 * p.h3.toNat)

/-- Queue counts, in the order FILLING, COMPLETE, CUTTING (R50, R178). -/
def countsBytes (c : Counts) : List Byte := be8 c.filling ++ be8 c.complete ++ be8 c.cutting

/-- A payload cut into numbers of two bytes (the samples of a track part, R177). -/
def halvesOf : List Byte → List Nat
  | a :: b :: rest => (a.toNat * 256 + b.toNat) :: halvesOf rest
  | _ => []

/-- A payload cut into 32-bit entries (R177). -/
def entriesOf : List Byte → List Entry
  | a :: b :: c :: d :: rest => (a ++ b ++ c ++ d) :: entriesOf rest
  | _ => []

/-- An entry in its four bytes (R178). -/
def entryBytes (e : Entry) : List Byte := be32 e.toNat

/-! ## Entries -/

/-- The high half of an entry (R2). -/
def highHalf (e : Entry) : Nat := (e.extractLsb' 16 16).toNat

/-- The low half of an entry (R2). -/
def lowHalf (e : Entry) : Nat := (e.extractLsb' 0 16).toNat

/-- Entry `i` of an image or a slot. The zero past the end is read by no run (log entry 19). -/
def entryAt (entries : List Entry) (i : Nat) : Entry := entries.getD i 0

/-- Entry `i` read as one signed quantity (R2). -/
def entryInt (entries : List Entry) (i : Nat) : Int := (entryAt entries i).toInt

/-- Entry `i` read as one quantity that a committed image holds at 0 or above. -/
def entryNat (entries : List Entry) (i : Nat) : Nat := (entryInt entries i).toNat

/-- Whether entry `i`, read signed, lies in a range. -/
def entryIn (entries : List Entry) (i : Nat) (lo hi : Int) : Bool :=
  lo ≤ entryInt entries i && entryInt entries i ≤ hi

/-! ## Kinds of slot -/

/-- The kind a slot's number fixes (R1). -/
def slotKind (slot : Nat) : SlotKind :=
  if slot < 16 then .gradation
  else if slot < 24 then .screen
  else if slot < 32 then .runout
  else if slot < 36 then .headcal
  else .budget

/-- The number of entries an image of a kind may hold (R1). -/
def kindSize : SlotKind → Nat
  | .gradation => 33
  | .screen => 2
  | .runout => 256
  | .headcal => 16
  | .budget => 8

/-- The HEADCAL slot of a head (R1). -/
def headcalSlot (h : Head) : Nat := 32 + h.val

/-- The BUDGET slot (R1). -/
def budgetSlot : Nat := 36

/-! ## Fields of a HEADCAL record (R3) -/

/-- Entry 0, the gain G. -/
def hcGain (e : List Entry) : Int := entryInt e 0
/-- Entry 1, the base Bc. -/
def hcBase (e : List Entry) : Int := entryInt e 1
/-- Entry 2, the cutoff depth Dc. -/
def hcCutoff (e : List Entry) : Int := entryInt e 2
/-- Entry 3, the maximum depth Dm. -/
def hcMaxDepth (e : List Entry) : Int := entryInt e 3
/-- Entry 4, the lift code L. -/
def hcLift (e : List Entry) : Nat := entryNat e 4
/-- Entry 5, the width-to-depth factor F. -/
def hcFactor (e : List Entry) : Nat := entryNat e 5
/-- Entry 12, the idle power. -/
def hcIdlePower (e : List Entry) : Nat := entryNat e 12
/-- Entry 13, the power span. -/
def hcPowerSpan (e : List Entry) : Nat := entryNat e 13
/-- Entry 14, the wear rate wr. -/
def hcWearRate (e : List Entry) : Nat := entryNat e 14
/-- Entry 15, the wear cap wc. -/
def hcWearCap (e : List Entry) : Nat := entryNat e 15

/-- Entries 6 to 11, the monitor parameters (R126). -/
def hcMonitor (e : List Entry) : MonitorParams :=
  ⟨entryNat e 6, entryNat e 7, entryNat e 8, entryNat e 9, entryNat e 10, entryNat e 11⟩

/-! ## Checks in order -/

/-- The position of the first check of a list that fails. -/
def firstFailure : List (Bool × Nat) → Option Nat
  | [] => none
  | (ok, position) :: rest => if ok then firstFailure rest else some position

/-- Whether a number lies in a range. -/
def within (lo hi n : Nat) : Bool := decide (lo ≤ n) && decide (n ≤ hi)

end Sys2Proof.Machine
end

