-- ==== Sys2Proof/Machine/Cell.lean ====
section
/-! DEFINITION. The cell computation of chapter 4 as pure functions: stroke generator start, sample pick,
gradation, closing, compensation, drive code, running sums and wear. -/

namespace Sys2Proof.Machine

/-! ## Sums -/

/-- One number taken into a pair of sums modulo 65535, sum2 with the new sum1 (R6, R90). -/
def sumStep (sums : Nat × Nat) (n : Nat) : Nat × Nat :=
  ((sums.1 + n) % 65535, (sums.2 + (sums.1 + n) % 65535) % 65535)

/-- The checksum of a slot's entries: high half, then low half, of each in order (R6). -/
def checksum (entries : List Entry) : Nat × Nat :=
  entries.foldl (fun sums e => sumStep (sumStep sums (highHalf e)) (lowHalf e)) (0, 0)

/-! ## Stroke generator -/

/-- The accumulator at a track start (R73). -/
def trackStart (counts : Nat) (half : Bool) (number : Nat) : Nat :=
  counts / 4 + (if half && number % 2 == 1 then counts / 2 else 0)

/-- The accumulator at the start of a test cut (R80). -/
def testStart (counts : Nat) : Nat := counts / 4

/-! ## Sample pick and gradation -/

/-- R81. -/
def sampleIndex (k total cells : Nat) : Nat := k * total / cells

/-- The breakpoints of a gradation curve: tone and depth of each (R2). -/
def breakpoints (curve : List Entry) : List (Nat × Nat) :=
  ((curve.drop 1).take (entryNat curve 0)).map (fun e => (highHalf e, lowHalf e))

/-- The depth of the last breakpoint. -/
def lastDepth : List (Nat × Nat) → Nat
  | [] => 0
  | [p] => p.2
  | _ :: rest => lastDepth rest

/-- The depth of a tone below 1000: interpolation in the segment that holds it (R82). -/
def segmentDepth (v : Nat) : List (Nat × Nat) → Nat
  | p :: q :: rest =>
    if v < q.1 then p.2 + (v - p.1) * (q.2 - p.2) / (q.1 - p.1) else segmentDepth v (q :: rest)
  | [p] => p.2
  | [] => 0

/-- The uncompensated depth D0 (R82). -/
def gradationDepth (curve : List Entry) (v : Nat) : Nat :=
  if v = 1000 then lastDepth (breakpoints curve) else segmentDepth v (breakpoints curve)

/-! ## Compensation and drive code -/

/-- The angle segment of a stroke (R85). -/
def runoutSegment (angle counts : Nat) : Nat := angle * 256 / counts

/-- The runout of a stroke: the ring entry of its segment, or 0 when the job names no ring (R4, R85). -/
def runoutOf (ring : Option (List Entry)) (angle counts : Nat) : Int :=
  match ring with
  | some entries => entryInt entries (runoutSegment angle counts)
  | none => 0

/-- The wear offset Wo (R86). -/
def wearOffset (wear rate cap : Nat) : Nat := min cap (wear * rate / 1024)

/-- A value clamped into a range, and whether it lay below or above it. -/
def clampInt (lo hi v : Int) : Int × Bool × Bool :=
  if v < lo then (lo, true, false) else if hi < v then (hi, false, true) else (v, false, false)

/-- The code before clamping: Bc + floor((D1 G + 512) / 1024) (R88). -/
def driveCode (gain base depth : Int) : Int := base + (depth * gain + 512) / 1024

/-- The word, closed flag and clamps of one cell: closing on D0 alone, then compensation and drive code
(R84 to R88). -/
def computeCell (headcal curve : List Entry) (ring : Option (List Entry))
    (counts angle wear sample : Nat) : Stroke :=
  let d0 : Int := gradationDepth curve sample
  if d0 < hcCutoff headcal then ⟨hcLift headcal, true, false, false, false⟩
  else
    let sum := d0 + runoutOf ring angle counts +
      (wearOffset wear (hcWearRate headcal) (hcWearCap headcal) : Nat)
    let d1 := clampInt (hcCutoff headcal) (hcMaxDepth headcal) sum
    let code := clampInt 0 4095 (driveCode (hcGain headcal) (hcBase headcal) d1.1)
    ⟨code.1.toNat, false, d1.2.1, d1.2.2, code.2.1 || code.2.2⟩

/-- The word and closed flag of a test-cut cell (R143). -/
def testCell (c : CalSetup) (k : Nat) : Stroke :=
  if k < c.cellsPerLevel then ⟨c.codeLo, false, false, false, false⟩
  else if k < 2 * c.cellsPerLevel then ⟨c.codeHi, false, false, false, false⟩
  else ⟨hcLift c.headcal, true, false, false, false⟩

/-! ## Wear -/

/-- A cut stroke advances the wear count: the sub-count wraps, and W rises with the wrap until it
saturates (R91). -/
def Channel.countWear (closed : Bool) (c : Channel) : Channel :=
  if closed then c
  else
    { c with
      wearSub := c.wearSub + 1
      wear := if c.wearSub + 1 = 0 then min 65535 (c.wear + 1) else c.wear }

/-- The stroke on the drive port: word, present tag and one strobe pulse (R120). -/
def Channel.present (word : Nat) (c : Channel) : Channel :=
  { c with portWord := BitVec.ofNat 12 word, portTag := c.tag, strobes := c.strobes + 1 }

/-- Stage 6 of R75: the cell index and the tag advance. -/
def Channel.advance (c : Channel) : Channel :=
  { c with cellIndex := c.cellIndex + 1, tag := c.tag + 1 }

/-- The ENGAGE line of a state: asserted exactly while CALIBRATING, PRIMED, CUTTING or WAITING (R108). -/
def engaged : ChannelState → Bool
  | .calibrating | .primed | .cutting | .waiting => true
  | .off | .done | .parked | .halted => false

/-- The active states (R108). -/
def activeState : ChannelState → Bool
  | .primed | .cutting | .waiting => true
  | .off | .calibrating | .done | .parked | .halted => false

/-- The channel drives its ENGAGE line at each event that moves it (R108). -/
def Channel.enter (st : ChannelState) (c : Channel) : Channel :=
  { c with state := st, engage := engaged st }

/-- The channel leaves the job with a stop cause, which becomes its last stop cause (R118). -/
def Channel.leave (st : ChannelState) (cause : StopCause) (c : Channel) : Channel :=
  { c.enter st with lastStop := some cause }

end Sys2Proof.Machine
end

