-- ==== Sys2Proof/Machine/Codes.lean ====
section
/-! DEFINITION. The codes the links carry (R177, R178) and the table of the commands (R180, R182). -/

namespace Sys2Proof.Machine

/-- R177, the status codes. -/
def statusCode : Status → Nat
  | .ok => 0x00
  | .okClamped => 0x01
  | .started => 0x02
  | .state => 0x10
  | .busy => 0x11
  | .badParam => 0x12
  | .length => 0x13
  | .unknown => 0x14
  | .bound => 0x20
  | .empty => 0x21
  | .noStaging => 0x22
  | .stagingBusy => 0x23
  | .storeBusy => 0x24
  | .gap => 0x25
  | .invalid => 0x26
  | .noCursor => 0x27
  | .headBusy => 0x30
  | .emergency => 0x31
  | .timing => 0x32
  | .speed => 0x33
  | .geometry => 0x34
  | .budget => 0x35
  | .staging => 0x36
  | .notAwaiting => 0x40
  | .outOfWindow => 0x41
  | .disagree => 0x42
  | .noneFilling => 0x43

/-- R177, the job state byte. -/
def jobStateCode : JobState → Nat
  | .setup => 0
  | .armed => 1
  | .running => 2
  | .stopping => 3
  | .ended => 4
  | .aborted => 5

/-- R178. -/
def jobResultCode : JobResult → Nat
  | .complete => 1
  | .partialEnd => 2
  | .stopped => 3

/-- R178. -/
def stopCauseCode : StopCause → Nat
  | .finalDone => 0x01
  | .stopCommand => 0x02
  | .abortCommand => 0x03
  | .parkCommand => 0x04
  | .emergency => 0x05
  | .budgetShed => 0x06
  | .feedFault => 0x07
  | .stylusLift => 0x08
  | .stylusDeviation => 0x09
  | .monitorLost => 0x0a
  | .starved => 0x0b
  | .speed => 0x0c
  | .encoderSlip => 0x0d
  | .encoderReverse => 0x0e
  | .cylinderStall => 0x0f

/-- A last stop cause, 00h for NONE (R178). -/
def lastStopByte (c : Option StopCause) : List Byte :=
  match c with
  | none => be8 0
  | some c => be8 (stopCauseCode c)

/-- R178. -/
def channelStateCode : ChannelState → Nat
  | .off => 0
  | .calibrating => 1
  | .primed => 2
  | .cutting => 3
  | .waiting => 4
  | .done => 5
  | .parked => 6
  | .halted => 7

/-- R178. -/
def slotStateCode : SlotState → Nat
  | .empty => 0
  | .committing => 1
  | .valid => 2
  | .bound => 3

/-- R178. -/
def refusalCode : RefusalReason → Nat
  | .length => 0x01
  | .notEngaged => 0x02
  | .tag => 0x03
  | .order => 0x04
  | .duplicate => 0x05
  | .gap => 0x06
  | .badField => 0x07
  | .pastFinal => 0x08
  | .sequence => 0x09
  | .queueFull => 0x0a

/-- R178. -/
def strokeClassCode : StrokeClass → Nat
  | .good => 0
  | .lift => 1
  | .overcut => 2
  | .undercut => 3
  | .drag => 4

/-- R178. -/
def faultActionCode : FaultAction → Nat
  | .none => 0
  | .parked => 1
  | .aborted => 2
  | .calibrationFailed => 3

/-- R178. -/
def occasionCode : ShedOccasion → Nat
  | .go => 0
  | .bankChange => 1

/-- R178. -/
def calPhaseCode : CalPhase → Nat
  | .none => 0
  | .waitIndex _ => 1
  | .cut _ => 2
  | .awaitMeasure _ => 3

/-- R178. -/
def calCauseCode : CalCause → Nat
  | .short => 0x01
  | .fitOrder => 0x02
  | .fitRange => 0x03
  | .timeout => 0x04
  | .cancelled => 0x05
  | .emergency => 0x06
  | .cylinderStall => 0x07
  | .encoderReverse => 0x08
  | .encoderSlip => 0x09
  | .fault => 0x0a

/-- R178: FFh while unresolved. -/
def resolvedCode : Option ResolvedSource → Nat
  | some .line => 0
  | some .count => 1
  | none => 0xff

/-- The stop cause a stylus fault is (R118). -/
def faultCause : StylusFault → StopCause
  | .stylusLift => .stylusLift
  | .stylusDeviation => .stylusDeviation
  | .monitorLost => .monitorLost

/-- The kind code of an event's notice (R177). -/
def eventKind : Event → Nat
  | .jobState .. => 0x01
  | .channelState .. => 0x02
  | .trackDone .. => 0x03
  | .partRefused .. => 0x04
  | .signatureMismatch .. => 0x05
  | .hold .. => 0x06
  | .speed .. => 0x07
  | .slip .. => 0x08
  | .stall .. => 0x09
  | .encoderReverse .. => 0x0a
  | .shed .. => 0x0b
  | .bankChange .. => 0x0c
  | .deviation .. => 0x0d
  | .stylusFault .. => 0x0e
  | .commitDone .. => 0x0f
  | .calCutDone .. => 0x10
  | .calResult .. => 0x11
  | .calFailed .. => 0x12
  | .estop .. => 0x13

/-- The code of each command (each command's own rule). -/
def commandCode : CommandName → Byte
  | .identify => 0x01
  | .statusSnapshot => 0x02
  | .reset => 0x03
  | .timingSet => 0x10
  | .tableDiscard => 0x20
  | .tableCommit => 0x21
  | .tableErase => 0x22
  | .tableReadStart => 0x23
  | .tableReadContinue => 0x24
  | .jobDefine => 0x30
  | .arm => 0x31
  | .disarm => 0x32
  | .start => 0x33
  | .stop => 0x34
  | .abort => 0x35
  | .release => 0x36
  | .headPark => 0x37
  | .trackDiscard => 0x38
  | .calibrate => 0x40
  | .calMeasure => 0x41
  | .calApply => 0x42
  | .calCancel => 0x43
  | .stylusWear => 0x44
  | .noticeMask => 0x50
  | .noticeSkip => 0x51
  | .countersRead => 0x52
  | .countersClear => 0x53

/-- The parameter bytes of each command (R182). -/
def commandLength : CommandName → Nat
  | .identify => 0
  | .statusSnapshot => 0
  | .reset => 0
  | .timingSet => 14
  | .tableDiscard => 0
  | .tableCommit => 1
  | .tableErase => 1
  | .tableReadStart => 3
  | .tableReadContinue => 0
  | .jobDefine => 25
  | .arm => 0
  | .disarm => 0
  | .start => 0
  | .stop => 0
  | .abort => 0
  | .release => 0
  | .headPark => 1
  | .trackDiscard => 1
  | .calibrate => 15
  | .calMeasure => 6
  | .calApply => 1
  | .calCancel => 1
  | .stylusWear => 3
  | .noticeMask => 4
  | .noticeSkip => 2
  | .countersRead => 1
  | .countersClear => 1

/-- The job states in which a command is taken (09 section 9.6, "Command availability"). -/
def commandAvailable (c : CommandName) (j : JobState) : Bool :=
  match c with
  | .timingSet | .jobDefine | .arm | .calibrate => j == .setup
  | .disarm | .start => j == .armed
  | .stop => j == .running
  | .abort | .headPark => j == .armed || j == .running || j == .stopping
  | .release => j == .ended || j == .aborted
  | .identify | .statusSnapshot | .reset | .tableDiscard | .tableCommit | .tableErase
  | .tableReadStart | .tableReadContinue | .trackDiscard | .calMeasure | .calApply | .calCancel
  | .stylusWear | .noticeMask | .noticeSkip | .countersRead | .countersClear => true

/-- The data of a STATE refusal by R180: the job state, and for ARM the step its own rule gives to that
check (R184; log entry 15). -/
def stateRefusal (c : CommandName) (j : JobState) : List Byte :=
  match c with
  | .arm => be8 (jobStateCode j) ++ be8 1
  | _ => be8 (jobStateCode j)

end Sys2Proof.Machine
end

