-- ==== Sys2Proof/Machine/Flags.lean ====
section
/-! DEFINITION. The flags and counters of the Report Unit: sticky flags, the notice mask, the skips, the
counters and the captured maxima. -/

namespace Sys2Proof.Machine

/-- A saturating counter stays at its largest value when incremented there (00_scope.md, "Arithmetic"). -/
def saturate (largest n : Nat) : Nat := min largest (n + 1)

/-- One step of a 24-bit saturating cell counter (R204). -/
def cellStep (n : Nat) : Nat := saturate Config.maxCellCount n

/-! ## Sticky flags and the mask -/

/-- The kind's flag is set; a set flag stays set (R201). -/
def Rpt.setKindFlag (kind : Nat) (r : Rpt) : Rpt :=
  { r with kindFlags := r.kindFlags ||| BitVec.twoPow 19 (kind - 1) }

/-- Whether the mask enables a kind: bit c - 1 for code c (R198). -/
def Rpt.enables (kind : Nat) (r : Rpt) : Bool := r.mask.getLsbD (kind - 1)

/-- The twenty-three flags as bytes: the kind flags in the order of their codes, then NOTICE_LOST,
REPLY_LOST, LINK_ERROR and FULL_RESET (R201, R202; log entry 12). -/
def Rpt.flagBytes (r : Rpt) : List Byte :=
  (List.range 19).flatMap (fun i => flagByte (r.kindFlags.getLsbD i)) ++
    flagByte r.noticeLost ++ flagByte r.replyLost ++ flagByte r.linkError ++ flagByte r.fullReset

/-- STATUS SNAPSHOT clears all twenty-three flags (R203). -/
def Rpt.clearFlags (r : Rpt) : Rpt :=
  { r with kindFlags := 0, noticeLost := false, replyLost := false, linkError := false
           fullReset := false }

/-! ## Skips -/

/-- A TRACK_DONE event of a FINAL, SHORT or mismatched track is sent always (R111). -/
def sentAlways (signed isMatch short final : Bool) : Bool := final || short || (signed && !isMatch)

/-- A skip counter after one counted event: back to 0 when it reaches the setting (R199). -/
def skipNext (setting counter : Nat) : Nat := if counter + 1 = setting then 0 else counter + 1

/-- The skip counters after an event (R199). -/
def Rpt.skipsAfter (e : Event) (r : Rpt) : PerHead SkipCounters :=
  match e with
  | .trackDone h _ _ _ _ signed isMatch short final _ =>
    if sentAlways signed isMatch short final then r.skips
    else r.skips.set h { r.skips.get h with trackDone := skipNext r.skipN (r.skips.get h).trackDone }
  | .deviation h .. =>
    r.skips.set h { r.skips.get h with deviation := skipNext r.skipM (r.skips.get h).deviation }
  | _ => r.skips

/-- Whether the skip lets an event on (R199). -/
def Rpt.letsOn (e : Event) (r : Rpt) : Bool :=
  match e with
  | .trackDone h _ _ _ _ signed isMatch short final _ =>
    sentAlways signed isMatch short final || (r.skips.get h).trackDone + 1 == r.skipN
  | .deviation h .. => (r.skips.get h).deviation + 1 == r.skipM
  | _ => true

/-- Whether an event becomes a notice handed to the FLI: the skip lets it on and its kind is enabled
(R197). -/
def Rpt.sends (e : Event) (r : Rpt) : Bool := r.letsOn e && r.enables (eventKind e)

/-- What the Report Unit keeps of a posted event: its kind's flag and the skip counters (R197). -/
def Rpt.record (e : Event) (r : Rpt) : Rpt :=
  { r.setKindFlag (eventKind e) with skips := r.skipsAfter e }

/-! ## Counters -/

/-- The counters of one head changed. -/
def Rpt.updHead (h : Head) (f : HeadCounters → HeadCounters) (r : Rpt) : Rpt :=
  { r with heads := r.heads.set h (f (r.heads.get h)) }

/-- The cell counters of one head changed. -/
def Rpt.updCells (h : Head) (f : CellCounters → CellCounters) (r : Rpt) : Rpt :=
  r.updHead h (fun c => { c with cells := f c.cells })

/-- R92: the counts of one track stroke. -/
def countStroke (k : Stroke) (c : CellCounters) : CellCounters :=
  { c with
    closed := if k.closed then cellStep c.closed else c.closed
    lowClamp := if k.lowClamp then cellStep c.lowClamp else c.lowClamp
    highClamp := if k.highClamp then cellStep c.highClamp else c.highClamp
    codeClamp := if k.codeClamp then cellStep c.codeClamp else c.codeClamp }

/-- R176: a link-error event steps the counter of its class and sets LINK_ERROR. -/
def Rpt.linkErrorOf (k : LinkErrorClass) (r : Rpt) : Rpt :=
  match k with
  | .crc => { r with crcErrors := r.crcErrors + 1, linkError := true }
  | .length => { r with lengthErrors := r.lengthErrors + 1, linkError := true }
  | .kind => { r with kindErrors := r.kindErrors + 1, linkError := true }

/-- The nine cell counters of every head and the hold-revolution total cleared, the skip settings loaded
and the skip counters cleared: step 7 of R99. -/
def Rpt.armed (skipN skipM : Nat) (r : Rpt) : Rpt :=
  { r with
    skipN := skipN, skipM := skipM, skips := PerHead.const ⟨0, 0⟩
    heads := r.heads.mapIdx (fun _ c => { c with cells := HeadCounters.zero.cells })
    holdTotal := 0 }

end Sys2Proof.Machine
end

