-- ==== Sys2Proof/Machine/Wire.lean ====
section
/-! DEFINITION. The frames of the links: the CRC, the frames of the return link and the notice bodies. -/

namespace Sys2Proof.Machine

/-! ## CRC (R174) -/

/-- One message bit: the bit shifted out of the top and the message bit decide the combination with
1021h. -/
def crcBit (r : Half) (bit : Bool) : Half :=
  if r.msb != bit then (r <<< 1) ^^^ 0x1021 else r <<< 1

/-- One byte, most significant bit first. -/
def crcByte (r : Half) (b : Byte) : Half :=
  [7, 6, 5, 4, 3, 2, 1, 0].foldl (fun r i => crcBit r (b.getLsbD i)) r

/-- The remainder over the bytes from the kind to the last payload byte, from FFFFh. -/
def crc (bytes : List Byte) : Half := bytes.foldl crcByte 0xffff

/-- The bytes the CRC of a frame covers. -/
def covered (kind head : Byte) (payload : List Byte) : List Byte :=
  kind :: head :: (be16 payload.length ++ payload)

/-! ## Return frames (R177, R185) -/

/-- A frame built for the return link. -/
def buildFrame (kind head : Byte) (payload : List Byte) : ReturnFrame :=
  ⟨kind, head, payload, crc (covered kind head payload)⟩

/-- The bytes of a return frame on the line. -/
def ReturnFrame.wire (f : ReturnFrame) : List Byte :=
  0xb5 :: 0x4e :: (covered f.kind f.head f.payload ++ be16 f.crc.toNat)

/-- A REPLY frame: code, tag, status and data, head byte 0Fh (R177, R183). -/
def replyFrame (code : Byte) (tag : Half) (status : Status) (data : List Byte) : ReturnFrame :=
  buildFrame 0x91 0x0f (code :: (be16 tag.toNat ++ be8 (statusCode status) ++ data))

/-- The head byte of an event's notice (R197). -/
def eventHeadByte (e : Event) : Byte :=
  match e with
  | .channelState h .. | .trackDone h .. | .signatureMismatch h .. | .shed h .. | .deviation h ..
  | .stylusFault h .. | .calCutDone h .. | .calResult h .. | .calFailed h .. => BitVec.ofNat 8 h.val
  | .partRefused _ (some h) .. => BitVec.ofNat 8 h.val
  | .partRefused _ none .. => 0x0f
  | .jobState .. | .hold .. | .speed .. | .slip .. | .stall .. | .encoderReverse .. | .bankChange ..
  | .commitDone .. | .estop .. => 0x0f

/-- A head in a body. -/
def headByte (h : Head) : List Byte := be8 h.val

/-- The interrupted track of a CHANNEL_STATE event (R117). -/
def accountBytes (a : Account) : List Byte :=
  be16 a.number ++ be16 a.cells ++ be16 a.sum1 ++ be16 a.sum2 ++ flagByte a.short

/-- The value out of range, preceded by the byte that names it (R178). -/
def rangeBytes : RangeValue → List Byte
  | .gain v => be8 0 ++ be32 v
  | .base v => be8 1 ++ beInt32 v

/-- The body of an event's notice: the contents its owning rule lists, in that order, each in the width
R178 and R197 give it. An item given only in some cases has a presence byte (R178; log entry 9). -/
def eventBody : Event → List Byte
  | .jobState tag st result cause =>
    be16 tag ++ be8 (jobStateCode st) ++ optionalItem 1 (result.map (fun r => be8 (jobResultCode r))) ++
      optionalItem 1 (cause.map (fun c => be8 (stopCauseCode c)))
  | .channelState h st cause track completeFreed fillingFreed counts =>
    headByte h ++ be8 (channelStateCode st) ++
      optionalItem 1 (cause.map (fun c => be8 (stopCauseCode c))) ++
      optionalItem 9 (track.map accountBytes) ++ be8 completeFreed ++ be8 fillingFreed ++
      countsBytes counts
  | .trackDone h track cells sum1 sum2 signed isMatch short final counts =>
    headByte h ++ be16 track ++ be16 cells ++ be16 sum1 ++ be16 sum2 ++ flagByte signed ++
      flagByte isMatch ++ flagByte short ++ flagByte final ++ countsBytes counts
  | .partRefused hb _ track offset reason resumeTrack resumeOffset =>
    [hb] ++ be16 track ++ be16 offset ++ be8 (refusalCode reason) ++ be16 resumeTrack ++
      be16 resumeOffset
  | .signatureMismatch h track e1 e2 sum1 sum2 =>
    headByte h ++ be16 track ++ be16 e1 ++ be16 e2 ++ be16 sum1 ++ be16 sum2
  | .hold data speed lacking holdCount =>
    be8 (data.toNat + 2 * speed.toNat) ++ headSetByte lacking ++ be8 holdCount
  | .speed period deviation hard => be32 period ++ be32 deviation ++ be8 hard.toNat
  | .slip slip => beInt32 slip
  | .stall timeout => be16 timeout
  | .encoderReverse counter angle => [counter] ++ be32 angle
  | .shed h priority demand occasion bank budget before rank left =>
    headByte h ++ be8 priority ++ be16 demand ++ be8 (occasionCode occasion) ++ be8 bank.toNat ++
      be16 budget ++ be16 before ++ be8 rank ++ be16 left
  | .bankChange previous new budget sum sheds candidates =>
    be8 previous.toNat ++ be8 new.toNat ++ be16 budget ++ be16 sum ++ headSetByte sheds ++
      headSetByte candidates
  | .deviation h tag k value depth run =>
    headByte h ++ [tag] ++ be8 (strokeClassCode k) ++ be16 value ++
      optionalItem 4 (depth.map (fun d => be16 d.1 ++ beInt16 d.2)) ++ be8 run
  | .stylusFault h fault run tag value st action =>
    headByte h ++ be8 (stopCauseCode (faultCause fault)) ++ be8 run ++ [tag] ++
      optionalItem 2 (value.map be16) ++ be8 (channelStateCode st) ++ be8 (faultActionCode action)
  | .commitDone slot sum1 sum2 => be8 slot ++ be16 sum1 ++ be16 sum2
  | .calCutDone h cells codeLo codeHi n timeout =>
    headByte h ++ be16 cells ++ be16 codeLo ++ be16 codeHi ++ be16 n ++ be8 timeout
  | .calResult h lowWidth highWidth depthLo depthHi gain base formerGain formerBase =>
    headByte h ++ be16 lowWidth ++ be16 highWidth ++ be16 depthLo ++ be16 depthHi ++ be16 gain ++
      beInt16 base ++ be16 formerGain ++ beInt16 formerBase
  | .calFailed h cause phase lowWidth highWidth cells detail =>
    headByte h ++ be8 (calCauseCode cause) ++ be8 (calPhaseCode phase) ++
      optionalItem 2 (lowWidth.map be16) ++ optionalItem 2 (highWidth.map be16) ++
      optionalItem 2 (cells.map be16) ++
      optionalItem 4 (detail.depths.map (fun d => be16 d.1 ++ be16 d.2)) ++
      optionalItem 5 (detail.range.map rangeBytes) ++
      optionalItem 1 (detail.fault.map (fun f => be8 (stopCauseCode (faultCause f))))
  | .estop level => flagByte level

/-- A NOTICE frame: the kind code, then the body (R177, R197). -/
def noticeFrame (e : Event) : ReturnFrame :=
  buildFrame 0x92 (eventHeadByte e) (BitVec.ofNat 8 (eventKind e) :: eventBody e)

end Sys2Proof.Machine
end

