-- ==== Sys2Proof/Machine/Ops.lean ====
section
/-! DEFINITION. The named operations over the state that the commands and events share: updates of one
head, slots, posting and answering, the return arbiter, track queues, departures, the end and the abort
of a job, stylus faults and calibration failures. -/

namespace Sys2Proof.Machine

/-- The outcomes of a step of the part. -/
abbrev Result := Host.Outcome State Fault Refusal

/-! ## Updates of one head -/

/-- One channel changed. -/
def State.updChannel (h : Head) (f : Channel → Channel) (s : State) : State :=
  { s with channels := s.channels.set h (f (s.channels.get h)) }

/-- One Track Queue changed. -/
def State.updQueue (h : Head) (f : Queue → Queue) (s : State) : State :=
  { s with queues := s.queues.set h (f (s.queues.get h)) }

/-- One head's part of the Cut Monitor changed. -/
def State.updMonitor (h : Head) (f : Monitor → Monitor) (s : State) : State :=
  { s with monitors := s.monitors.set h (f (s.monitors.get h)) }

/-- One calibration record changed. -/
def State.updCal (h : Head) (f : Calibration → Calibration) (s : State) : State :=
  { s with cals := s.cals.set h (f (s.cals.get h)) }

/-- One head's counters changed. -/
def State.updCounters (h : Head) (f : HeadCounters → HeadCounters) (s : State) : State :=
  { s with rpt := s.rpt.updHead h f }

/-- One head's cell counters changed. -/
def State.updCells (h : Head) (f : CellCounters → CellCounters) (s : State) : State :=
  { s with rpt := s.rpt.updCells h f }

/-- One channel's demand set. -/
def State.setDemand (h : Head) (demand : Nat) (s : State) : State :=
  { s with dbu := { s.dbu with demand := s.dbu.demand.set h demand } }

/-! ## Slots -/

/-- A slot by its number; numbers above 36 name none (R1). -/
def Store.slot (t : Store) (i : Nat) : Slot := t.slots[i]?.getD Slot.blank

/-- A slot replaced. -/
def Store.setSlot (t : Store) (i : Nat) (v : Slot) : Store :=
  { t with slots := t.slots.setIfInBounds i v }

/-- Every slot changed by one function. -/
def Store.mapSlots (f : Slot → Slot) (t : Store) : Store := { t with slots := t.slots.map f }

/-- BOUND becomes VALID with contents and checksum unchanged (R21). -/
def Slot.unbound (v : Slot) : Slot := if v.state = .bound then { v with state := .valid } else v

/-- DISARM, RELEASE and a soft reset unbind every slot (R21, R24). -/
def Store.unbind (t : Store) : Store := t.mapSlots Slot.unbound

/-- A read cursor on the slot is cleared (R20). -/
def Store.clearCursorOn (i : Nat) (t : Store) : Store :=
  { t with cursor := t.cursor.filter (fun c => c.slot != i) }

/-- A slot holding entries in a state, with the checksum of R6. -/
def Slot.holding (st : SlotState) (entries : List Entry) : Slot :=
  ⟨st, entries, (checksum entries).1, (checksum entries).2⟩

/-- The HEADCAL entries of a head as the store presents them (R25). -/
def State.headcal (h : Head) (s : State) : List Entry := (s.store.slot (headcalSlot h)).entries

/-- The budget of a bank as the store presents it: zero while the slot holds none (R25, R158). -/
def State.budgetOf (bank : BitVec 3) (s : State) : Nat :=
  entryNat (s.store.slot budgetSlot).entries bank.toNat

/-! ## Job views -/

/-- What the job record holds for a head of its set (R95). -/
def State.headEntry (h : Head) (s : State) : Option HeadEntry :=
  match s.job.record with
  | some r => r.heads.get h
  | none => none

/-- The priority of a head in the job (R161). -/
def State.priority (h : Head) (s : State) : Nat :=
  match s.headEntry h with
  | some e => e.priority
  | none => 0

/-- The screen entries of the job. -/
def State.screenEntries (s : State) : List Entry :=
  match s.job.record with
  | some r => (s.store.slot r.screen).entries
  | none => []

/-- C, the cells of a track, from the screen slot of the job (R72). -/
def State.jobCells (s : State) : Nat := entryNat s.screenEntries 0

/-- Whether the job's screen has the shift mode HALF (R2, R72). -/
def State.jobHalf (s : State) : Bool := entryNat s.screenEntries 1 == 1

/-- E, the counts of a revolution (R27). -/
def State.counts (s : State) : Nat :=
  match s.ctu.settings with
  | some t => t.counts
  | none => 0

/-- ESTOP_N is asserted low (R107). -/
def State.estopAsserted (s : State) : Bool := !s.lines.estopN

/-- The part is held in full reset (R194, R195). -/
def State.inReset (s : State) : Bool := !s.lines.resetN || s.lines.powerHeld

/-- The channel state of a head. -/
def State.channelState (h : Head) (s : State) : ChannelState := (s.channels.get h).state

/-- Whether a head's channel is active (R108). -/
def State.active (h : Head) (s : State) : Bool := activeState (s.channelState h)

/-- Whether any channel is active. -/
def State.anyActive (s : State) : Bool :=
  s.active 0 || s.active 1 || s.active 2 || s.active 3

/-- Whether any channel is CUTTING. -/
def State.anyCutting (s : State) : Bool :=
  s.channelState 0 == .cutting || s.channelState 1 == .cutting ||
    s.channelState 2 == .cutting || s.channelState 3 == .cutting

/-- The lowest-numbered calibrating head, if any (R98). -/
def State.calibratingHead (s : State) : Option Head :=
  allHeads.find? (fun h => s.channelState h == .calibrating)

/-- The job can be aborted or end: ARMED, RUNNING or STOPPING (R104, R105). -/
def jobLive (j : JobState) : Bool := j == .armed || j == .running || j == .stopping

/-- The job cuts: RUNNING or STOPPING. -/
def jobCutting (j : JobState) : Bool := j == .running || j == .stopping

/-! ## Posting and answering -/

/-- An event posted to the Report Unit: its flag is set, the skip and the mask decide, and its notice is
queued, or discarded with NOTICE_LOST when 32 wait (R187, R197). -/
def State.post (e : Event) (s : State) : State :=
  { s with
    rpt := { s.rpt.record e with
             noticeLost := s.rpt.noticeLost ||
               (s.rpt.sends e && decide (Config.noticeCapacity ≤ s.fli.notices.length)) }
    fli := { s.fli with
             notices := if s.rpt.sends e && decide (s.fli.notices.length < Config.noticeCapacity)
                        then s.fli.notices ++ [noticeFrame e] else s.fli.notices } }

/-- Events posted in order. -/
def State.postAll (es : List Event) (s : State) : State := es.foldl (fun s e => s.post e) s

/-- A reply queued, or discarded with REPLY_LOST when 8 wait (R186). -/
def State.queueReply (f : ReturnFrame) (s : State) : State :=
  { s with
    rpt := { s.rpt with
             replyLost := s.rpt.replyLost || decide (Config.replyCapacity ≤ s.fli.replies.length) }
    fli := { s.fli with
             replies := if s.fli.replies.length < Config.replyCapacity then s.fli.replies ++ [f]
                        else s.fli.replies } }

/-- The return arbiter: while the line is free, the oldest reply, else the oldest notice, begins
(R188). -/
def Fli.arbitrate (f : Fli) : Fli :=
  match f.line with
  | some _ => f
  | none =>
    match f.replies with
    | r :: rest => { f with line := some r, replies := rest }
    | [] =>
      match f.notices with
      | n :: rest => { f with line := some n, notices := rest }
      | [] => f

/-- The arbiter acts at the end of an event, after every frame placed at it has been queued (R188). -/
def State.arbitrate (s : State) : State := { s with fli := s.fli.arbitrate }

/-- A link error posted to the Report Unit (R176). -/
def State.linkErrorOf (k : LinkErrorClass) (s : State) : State := { s with rpt := s.rpt.linkErrorOf k }

/-- An event of the part: ignored while the part is held in reset (R194), else taken whole, after which
the return arbiter acts. -/
def serve (f : State → State) (s : State) : Result :=
  if s.inReset then .next s else .next (f s).arbitrate

/-- What an owning block gives for a command: the state after it, the status and the reply data. -/
abbrev Answer := State × Status × List Byte

/-- The three checks common to every command, then its owning block (R180, R184). -/
def judge (c : CommandName) (params : List Byte) (body : State → Answer) (s : State) : Answer :=
  if params.length ≠ commandLength c then (s, .length, be16 (commandLength c))
  else if commandAvailable c s.job.state then body s
  else (s, .state, stateRefusal c s.job.state)

/-- The reply to a command, placed after the command has acted (R183, R186). -/
def State.answered (code : Byte) (tag : Half) (a : Answer) : State :=
  a.1.queueReply (replyFrame code tag a.2.1 a.2.2)

/-- A command taken: judged, carried out and answered (R180). -/
def command (c : CommandName) (tag : Half) (params : List Byte) (body : State → Answer) (s : State) :
    Result :=
  serve (fun s => State.answered (commandCode c) tag (judge c params body s)) s

/-! ## Track Queues -/

/-- Whether a record is FILLING. -/
def TrackRecord.isFilling (r : TrackRecord) : Bool :=
  match r.state with
  | .filling => true
  | .complete _ => false
  | .cutting _ _ _ => false

/-- Whether a record is COMPLETE. -/
def TrackRecord.isComplete (r : TrackRecord) : Bool :=
  match r.state with
  | .filling => false
  | .complete _ => true
  | .cutting _ _ _ => false

/-- Whether a record is CUTTING. -/
def TrackRecord.isCutting (r : TrackRecord) : Bool :=
  match r.state with
  | .filling => false
  | .complete _ => false
  | .cutting _ _ _ => true

/-- The mean tone of a record, present from completion (R47). -/
def TrackRecord.mean (r : TrackRecord) : Nat :=
  match r.state with
  | .filling => 0
  | .complete m => m
  | .cutting m _ _ => m

/-- The running sums of a CUTTING record (R47). -/
def TrackRecord.sums (r : TrackRecord) : Nat × Nat :=
  match r.state with
  | .filling => (0, 0)
  | .complete _ => (0, 0)
  | .cutting _ s1 s2 => (s1, s2)

/-- The filled count (R47). -/
def TrackRecord.filled (r : TrackRecord) : Nat := r.samples.length

/-- The queue counts (R50). -/
def Queue.counts (q : Queue) : Counts :=
  ⟨q.records.countP TrackRecord.isFilling, q.records.countP TrackRecord.isComplete,
   q.records.countP TrackRecord.isCutting⟩

/-- The FILLING record, if there is one (R49). -/
def Queue.filling? (q : Queue) : Option TrackRecord := q.records.find? TrackRecord.isFilling

/-- The CUTTING record, the track in progress, which stands at the queue head (R49). -/
def Queue.inProgress (q : Queue) : Option TrackRecord :=
  match q.records with
  | r :: _ => if r.isCutting then some r else none
  | [] => none

/-- The queue head when it is COMPLETE (R39, R62). -/
def Queue.ready (q : Queue) : Option TrackRecord :=
  match q.records with
  | r :: _ => if r.isComplete then some r else none
  | [] => none

/-- Every record becomes FREE; the other values of the queue stay (R67, R69). -/
def Queue.emptied (q : Queue) : Queue := { q with records := [] }

/-- The CUTTING record's buffer becomes FREE (R64). -/
def Queue.retired (q : Queue) : Queue := { q with records := q.records.drop 1 }

/-- The queue head changed. -/
def Queue.updHead (f : TrackRecord → TrackRecord) (q : Queue) : Queue :=
  match q.records with
  | r :: rest => { q with records := f r :: rest }
  | [] => q

/-! ## Carriage feed, end of a job -/

/-- FEED_EN is deasserted at the event at which the last CUTTING channel leaves CUTTING (R43). -/
def State.dropFeed (s : State) : State :=
  { s with ctu := { s.ctu with feedEn := s.ctu.feedEn && s.anyCutting } }

/-- The job tag carried by JOB_STATE (R97). -/
def State.jobTag (s : State) : Nat :=
  match s.job.record with
  | some r => r.tag
  | none => 0

/-- A change of job state, posted as JOB_STATE with the result when it is ENDED and the abort cause when
it is ABORTED (R97). -/
def State.enterJob (st : JobState) (result : Option JobResult) (cause : Option StopCause) (s : State) :
    State :=
  ({ s with job := { s.job with state := st, result := result, abortCause := cause } }).post
    (.jobState s.jobTag st (if st = JobState.ended then result else none)
      (if st = JobState.aborted then cause else none))

/-- The result of a job that ends (R104). -/
def State.endResult (s : State) : JobResult :=
  if s.job.state = .stopping then .stopped
  else if allHeads.all (fun h => (s.headEntry h).isNone || s.channelState h == .done) then .complete
  else .partialEnd

/-- The job ends when no channel is active (R104). -/
def State.endJob (s : State) : State :=
  if jobLive s.job.state && !s.anyActive then s.enterJob .ended (some s.endResult) none else s

/-! ## Leaving the job -/

/-- The account of the track in progress of a CUTTING channel (R114). -/
def State.account (h : Head) (s : State) : Option Account :=
  if s.channelState h = .cutting then
    (s.queues.get h).inProgress.map (fun r =>
      ⟨r.number, (s.channels.get h).cellIndex, r.sums.1, r.sums.2,
       decide ((s.channels.get h).cellIndex < s.jobCells)⟩)
  else none

/-- Whether a head would leave a SHORT track behind (R114). -/
def State.leavesShort (h : Head) (s : State) : Bool :=
  match s.account h with
  | some a => a.short
  | none => false

/-- A channel leaves the job: its state, ENGAGE line and last stop cause, its demand, its queue and, for
a SHORT track, its short-track counter (R67, R114, R118, R160). -/
def State.depart (h : Head) (st : ChannelState) (cause : StopCause) (s : State) : State :=
  { s with
    channels := s.channels.set h ((s.channels.get h).leave st cause)
    queues := s.queues.set h (s.queues.get h).emptied
    dbu := { s.dbu with demand := s.dbu.demand.set h 0 }
    rpt := s.rpt.updHead h (fun c =>
      if s.leavesShort h then { c with shortTracks := c.shortTracks + 1 } else c) }

/-- The CHANNEL_STATE event of that departure, from the state before it (R117). -/
def State.departEvent (h : Head) (st : ChannelState) (cause : StopCause) (s : State) : Event :=
  .channelState h st (some cause) (s.account h) (s.queues.get h).counts.complete
    (s.queues.get h).counts.filling (s.queues.get h).emptied.counts

/-- A channel parked or halted by itself: the departure, FEED_EN, its CHANNEL_STATE event, and the end of
the job when none stays active (R104, R112, R115, R116). -/
def State.leaveJob (h : Head) (st : ChannelState) (cause : StopCause) (s : State) : State :=
  (((s.depart h st cause).dropFeed).post (s.departEvent h st cause)).endJob

/-! ## Abort (R105) -/

/-- Step 2 and 3 for one head: an active channel becomes HALTED and its queue is emptied. -/
def State.haltIfActive (cause : StopCause) (h : Head) (s : State) : State :=
  if s.active h then s.depart h .halted cause else s

/-- The CHANNEL_STATE events of the channels an abort halts, in ascending head order. -/
def State.haltEvents (cause : StopCause) (s : State) : List Event :=
  (allHeads.filter (fun h => s.active h)).map (fun h => s.departEvent h .halted cause)

/-- An abort cause handed to the Job Controller: it acts while the job is ARMED, RUNNING or STOPPING. -/
def State.abortJob (cause : StopCause) (s : State) : State :=
  if jobLive s.job.state then
    let halted := forHeads (State.haltIfActive cause)
      { s with job := { s.job with state := .aborted, result := none, abortCause := some cause } }
    (({ halted with ctu := { halted.ctu with feedEn := false } }).postAll (s.haltEvents cause)).post
      (.jobState s.jobTag .aborted none (some cause))
  else s

/-- An abort cause of the Cylinder Timing Unit, handed over while the job is RUNNING or STOPPING (R34,
R38, R44). -/
def State.abortIfCutting (cause : StopCause) (s : State) : State :=
  if jobCutting s.job.state then s.abortJob cause else s

/-! ## Calibration (R139, R149) -/

/-- The parameters and copies of a calibration in progress. -/
def CalPhase.setup? : CalPhase → Option CalSetup
  | .none => Option.none
  | .waitIndex c => some c
  | .cut c => some c
  | .awaitMeasure c => some c

/-- Whether a phase is CUT. -/
def CalPhase.isCut : CalPhase → Bool
  | .none => false
  | .waitIndex _ => false
  | .cut _ => true
  | .awaitMeasure _ => false

/-- A calibration is in progress for a head (R139). -/
def State.calibrating (h : Head) (s : State) : Bool := (s.cals.get h).phase.setup?.isSome

/-- The record after a calibration has ended: phase NONE, parameters, copies and widths discarded, timer
stopped; the proposal outlives it (R139). -/
def Calibration.ended (c : Calibration) : Calibration :=
  { phase := .none, lowWidth := none, highWidth := none, timer := none, proposal := c.proposal }

/-- A calibration ends: its record returns to NONE and its channel to OFF (R139). -/
def State.endCal (h : Head) (s : State) : State :=
  (s.updCal h Calibration.ended).updChannel h (Channel.enter .off)

/-- The CAL_FAILED event of a failure (R149; log entry 16). -/
def State.failEvent (h : Head) (cause : CalCause) (detail : CalDetail) (s : State) : Event :=
  .calFailed h cause (s.cals.get h).phase (s.cals.get h).lowWidth (s.cals.get h).highWidth
    (if (s.cals.get h).phase.isCut then some (s.channels.get h).cellIndex else none) detail

/-- A calibration fails at the event that causes it (R149). -/
def State.failCal (h : Head) (cause : CalCause) (detail : CalDetail) (s : State) : State :=
  (s.post (s.failEvent h cause detail)).endCal h

/-- A failure detail with nothing to add. -/
def CalDetail.plain : CalDetail := ⟨none, none, none⟩

/-- Every calibration in progress fails with one cause, in ascending head order (R139, R150). -/
def State.failAllCals (cause : CalCause) (s : State) : State :=
  forHeads (fun h s => if s.calibrating h then s.failCal h cause CalDetail.plain else s) s

/-! ## Stylus faults (R131, R132) -/

/-- The action of a fault of a head, by its channel state and its policy (R132). -/
def State.faultAction (h : Head) (s : State) : FaultAction :=
  match s.channelState h with
  | .cutting =>
    match s.headEntry h with
    | some e => if e.policy = .parkHead then .parked else .aborted
    | none => .aborted
  | .calibrating => .calibrationFailed
  | .off => .none
  | .primed => .none
  | .waiting => .none
  | .done => .none
  | .parked => .none
  | .halted => .none

/-- Steps 2 and 3 of R131: the stylus-fault counter and the STYLUS_FAULT event. -/
def State.raiseFault (h : Head) (fault : StylusFault) (run : Nat) (tag : BitVec 8)
    (value : Option Nat) (s : State) : State :=
  (s.updCounters h (fun c => { c with stylusFaults := c.stylusFaults + 1 })).post
    (.stylusFault h fault run tag value (s.channelState h) (s.faultAction h))

/-- Step 4 of R131: the fault handed to the channel, the Job Controller or the Calibration Unit when it
acts. -/
def State.actFault (h : Head) (fault : StylusFault) (action : FaultAction) (s : State) : State :=
  match action with
  | .none => s
  | .parked => s.leaveJob h .parked (faultCause fault)
  | .aborted => s.abortJob (faultCause fault)
  | .calibrationFailed => s.failCal h .fault ⟨none, none, some fault⟩

end Sys2Proof.Machine
end

