-- ==== Sys2Proof/Machine/Budget.lean ====
section
/-! DEFINITION. The Drive Budget Unit: track demands, the shedding order, sheds, the shed candidates and
the bank change (chapter 8). -/

namespace Sys2Proof.Machine

/-- The demand of a track of a head with a mean tone (R159). -/
def trackDemand (headcal : List Entry) (mean : Nat) : Nat :=
  hcIdlePower headcal + mean * hcPowerSpan headcal / 1000

/-- The worst-case demand of a head, P_idle + P_span (R159). -/
def worstDemand (headcal : List Entry) : Nat := hcIdlePower headcal + hcPowerSpan headcal

/-- The head a shedding order removes before another: the higher priority number, and among equals the
higher head number (R161). -/
def removedBefore (priority : Head → Nat) (a b : Head) : Bool :=
  priority b < priority a || (priority a == priority b && b.val < a.val)

/-- A head put into its place in the order of removal. -/
def insertHead (priority : Head → Nat) (a : Head) : List Head → List Head
  | [] => [a]
  | b :: rest => if removedBefore priority a b then a :: b :: rest else b :: insertHead priority a rest

/-- The heads of a set in the order of removal (R161). -/
def removalOrder (priority : Head → Nat) (members : Head → Bool) : List Head :=
  (allHeads.filter members).foldr (insertHead priority) []

/-- The sum of the demands of a list of heads. -/
def sumDemands (demand : Head → Nat) (heads : List Head) : Nat := (heads.map demand).sum

/-- Removal in order while the sum exceeds the budget: `sum` is the sum of the heads not yet removed and
`rank` the rank of the next one (R161). -/
def shedWalk (demand : Head → Nat) (budget : Nat) : Nat → Nat → List Head → List Shed
  | _, _, [] => []
  | sum, rank, h :: rest =>
    if sum ≤ budget then []
    else ⟨h, demand h, rank, sum - demand h⟩ ::
      shedWalk demand budget (sum - demand h) (rank + 1) rest

/-- The shedding order applied to a set of heads, their demands and a budget: the removed heads in the
order of their removal (R161). -/
def shedOrder (priority demand : Head → Nat) (members : Head → Bool) (budget : Nat) : List Shed :=
  shedWalk demand budget (sumDemands demand (allHeads.filter members)) 1
    (removalOrder priority members)

/-- The removal of a head in a result of the shedding order, if it is removed. -/
def shedOf (sheds : List Shed) (h : Head) : Option Shed := sheds.find? (fun x => x.head == h)

/-- Whether a head is removed. -/
def isShed (sheds : List Shed) (h : Head) : Bool := (shedOf sheds h).isSome

/-- The removed heads as a set. -/
def shedSet (sheds : List Shed) : HeadSet := PerHead.ofFn (isShed sheds)

/-- The shedding order at worst-case demands under a bank (R165, R166). -/
def State.worstCase (members : Head → Bool) (bank : BitVec 3) (s : State) : List Shed :=
  shedOrder (fun h => s.priority h) (fun h => worstDemand (s.headcal h)) members (s.budgetOf bank)

/-- The channels CUTTING with a track in progress (R163). -/
def State.cuttingTrack (h : Head) (s : State) : Bool :=
  s.channelState h == .cutting && (s.queues.get h).inProgress.isSome

/-- A channel of a shedding result is shed (R164): the SHED event, then the departure of R116. -/
def State.shedHead (occasion : ShedOccasion) (budget before : Nat) (x : Shed) (s : State) : State :=
  (s.post (.shed x.head (s.priority x.head) x.demand occasion s.dbu.bank budget before x.rank x.left)).leaveJob
    x.head .parked .budgetShed

/-- The channels of a shedding result are shed in ascending head order (R164). -/
def State.shedAll (occasion : ShedOccasion) (budget before : Nat) (sheds : List Shed) (s : State) : State :=
  forHeads (fun h s =>
    match shedOf sheds h with
    | some x => s.shedHead occasion budget before x
    | none => s) s

/-- The summed demand of the four channels (R160). -/
def State.summedDemand (s : State) : Nat := sumDemands s.dbu.demand.get allHeads

/-- The sheds a bank change makes: the shedding order over the channels cutting a track (R163). -/
def State.bankSheds (bank : BitVec 3) (s : State) : List Shed :=
  shedOrder (fun h => s.priority h) s.dbu.demand.get (fun h => s.cuttingTrack h) (s.budgetOf bank)

/-- The candidates after a bank change: over the active channels not shed by it (R163, R165). -/
def State.bankCandidates (bank : BitVec 3) (s : State) : HeadSet :=
  shedSet (s.worstCase (fun h => s.active h && !isShed (s.bankSheds bank) h) bank)

/-- A bank-change event to a new value of the lines (R163). -/
def State.changeBank (bank : BitVec 3) (s : State) : State :=
  (({ s with dbu := { s.dbu with bank := bank, candidates := s.bankCandidates bank } }).post
      (.bankChange s.dbu.bank bank (s.budgetOf bank) s.summedDemand (shedSet (s.bankSheds bank))
        (s.bankCandidates bank))).shedAll
    .bankChange (s.budgetOf bank)
    (sumDemands s.dbu.demand.get (allHeads.filter (fun h => s.cuttingTrack h))) (s.bankSheds bank)

/-- BANK_CHANGE: the filtered PS lines take a new value. While the part is held in reset only the lines
change (R194); a value equal to the present one is no change (log entry 5). -/
def execBankChange (bank : BitVec 3) (s : State) : Result :=
  if s.inReset then .next { s with lines := { s.lines with ps := bank } }
  else if bank = s.lines.ps then .next s
  else serve (State.changeBank bank) { s with lines := { s.lines with ps := bank } }

end Sys2Proof.Machine
end

