-- ==== Sys2Proof/Machine/Revolution.lean ====
section
/-! DEFINITION. The revolution boundary: slip, period, calibration phases, retirement, the revolution
decision and its GO and HOLD (R33, R35 to R41, R110 to R113, R142, R144, R162). -/

namespace Sys2Proof.Machine

/-! ## Slip and period -/

/-- The counter value folded into a signed slip (R33). -/
def foldSlip (counts x : Nat) : Int := if 2 * x < counts then (x : Int) else (x : Int) - counts

/-- Whether a slip lies beyond the tolerance (R33). -/
def beyond (tolerance : Nat) (slip : Int) : Bool := decide (tolerance < slip.natAbs)

/-- A measured slip: a nonzero one steps the slip counter, and one beyond the tolerance posts SLIP
(R33). -/
def State.noteSlip (t : TimingSettings) (slip : Int) (s : State) : State :=
  let counted := if slip = 0 then s else { s with rpt := { s.rpt with slips := s.rpt.slips + 1 } }
  if beyond t.slipTolerance slip then counted.post (.slip slip) else counted

/-- The speed deviation of a period against the nominal period, per mille (R37). -/
def speedDeviation (nominal period : Nat) : Nat := (max period nominal - min period nominal) * 1000 / nominal

/-- A valid period: the captured maximum deviation, and a SPEED event above the soft window (R37). -/
def State.noteSpeed (t : TimingSettings) (s : State) : State :=
  let d := speedDeviation t.nominalPeriod s.ctu.period
  let raised := { s with rpt := { s.rpt with maxDeviation := max s.rpt.maxDeviation d } }
  if t.softWindow < d then raised.post (.speed s.ctu.period d (decide (t.hardWindow < d))) else raised

/-- The period measured at a boundary taken at `time`, and the stall timer restarted (R36, R38). -/
def State.measurePeriod (t : TimingSettings) (time : Nat) (s : State) : State :=
  match s.ctu.reference with
  | some r =>
    State.noteSpeed t
      { s with ctu := { s.ctu with
                period := min Config.maxPeriod (time - r), periodValid := true
                reference := some time, stallRunning := true } }
  | none =>
    { s with ctu := { s.ctu with periodValid := false, reference := some time, stallRunning := true } }

/-- The last period is valid and within the hard window (R37). -/
def State.withinHard (s : State) : Bool :=
  match s.ctu.settings with
  | some t => s.ctu.periodValid && decide (speedDeviation t.nominalPeriod s.ctu.period ≤ t.hardWindow)
  | none => false

/-! ## Calibration phases at a boundary -/

/-- The three runs of a head set to 0 (R130). -/
def Monitor.clearRuns (m : Monitor) : Monitor := { m with liftRun := 0, deviationRun := 0, missingRun := 0 }

/-- The first boundary in WAIT_INDEX starts the cut phase (R142). -/
def State.startCut (h : Head) (c : CalSetup) (s : State) : State :=
  ((s.updCal h (fun r => { r with phase := .cut c })).updChannel h
      (fun ch => { ch with cellIndex := 0, accumulator := testStart s.counts })).updMonitor h
    Monitor.clearRuns

/-- The boundary in CUT ends the cut phase: a SHORT cut fails, a whole one posts CAL_CUT_DONE and waits for
the measurements (R144, R145). -/
def State.endCut (h : Head) (c : CalSetup) (s : State) : State :=
  if (s.channels.get h).cellIndex < c.cells then s.failCal h .short CalDetail.plain
  else
    (s.post (.calCutDone h (s.channels.get h).cellIndex c.codeLo c.codeHi c.cellsPerLevel c.timeout)).updCal
      h (fun r => { r with phase := .awaitMeasure c, timer := some c.timeout })

/-- The phase step of a head's calibration at a boundary handed to the Calibration Unit (R35). -/
def State.calBoundary (h : Head) (s : State) : State :=
  match (s.cals.get h).phase with
  | .none => s
  | .waitIndex c => s.startCut h c
  | .cut c => s.endCut h c
  | .awaitMeasure _ => s

/-! ## Retirement -/

/-- A signature compared with the running sums (R111). -/
def signatureMatches (signature : Option (Nat × Nat)) (sums : Nat × Nat) : Bool :=
  match signature with
  | some e => e.1 == sums.1 && e.2 == sums.2
  | none => false

/-- Whether a track is mismatched: a signature is present and does not match (R111). -/
def mismatched (signature : Option (Nat × Nat)) (sums : Nat × Nat) : Bool :=
  match signature with
  | some e => !(e.1 == sums.1 && e.2 == sums.2)
  | none => false

/-- Steps 1 to 6 of R111: counters, the record freed, TRACK_DONE and SIGNATURE_MISMATCH. -/
def State.retireTrack (h : Head) (r : TrackRecord) (s : State) : State :=
  let cells := (s.channels.get h).cellIndex
  let short := decide (cells < s.jobCells)
  let wrong := mismatched r.signature r.sums
  let freed := ((s.updCounters h (fun c =>
      { c with shortTracks := if short then c.shortTracks + 1 else c.shortTracks
               mismatches := if wrong then c.mismatches + 1 else c.mismatches })).updQueue h
        Queue.retired).setDemand h 0
  let done := freed.post (.trackDone h r.number cells r.sums.1 r.sums.2 r.signature.isSome
    (signatureMatches r.signature r.sums) short r.final (freed.queues.get h).counts)
  match r.signature with
  | some e =>
    if wrong then done.post (.signatureMismatch h r.number e.1 e.2 r.sums.1 r.sums.2) else done
  | none => done

/-- A FINAL track was retired: the channel becomes DONE and nothing is freed (R112). -/
def State.finishHead (h : Head) (s : State) : State :=
  (((s.updChannel h (Channel.leave .done .finalDone)).dropFeed).post
    (.channelState h .done (some .finalDone) none 0 0 (s.queues.get h).counts)).endJob

/-- A CUTTING channel with a track in progress retires it and moves on (R111, R112). -/
def State.retireHead (h : Head) (s : State) : State :=
  if s.channelState h = .cutting then
    match (s.queues.get h).inProgress with
    | some r =>
      let done := s.retireTrack h r
      if r.final then done.finishHead h
      else if s.job.state = .stopping then done.leaveJob h .halted .stopCommand
      else done
    | none => s
  else s

/-- In job STOPPING the channels that are still active leave at the boundary (R113). -/
def State.stopHead (h : Head) (s : State) : State :=
  if s.job.state = .stopping && s.active h then s.leaveJob h .halted .stopCommand else s

/-! ## The revolution decision -/

/-- The active heads whose queue head is not COMPLETE (R39). -/
def State.lacking (s : State) : HeadSet :=
  PerHead.ofFn (fun h => s.active h && (s.queues.get h).ready.isNone)

/-- Whether a set of heads is empty. -/
def noHead (p : HeadSet) : Bool := !(p.h0 || p.h1 || p.h2 || p.h3)

/-- Whether the revolution is granted (R39). -/
def State.granted (s : State) : Bool := noHead s.lacking && s.withinHard

/-- The demand a head's queue-head track would have (R159, R162). -/
def State.nextDemand (h : Head) (s : State) : Nat :=
  match (s.queues.get h).ready with
  | some r => trackDemand (s.headcal h) r.mean
  | none => 0

/-- A COMPLETE record becomes CUTTING with its sums at zero (R63, R73). -/
def TrackRecord.begin (r : TrackRecord) : TrackRecord := { r with state := .cutting r.mean 0 0 }

/-- An active channel starts the track at its queue head (R63, R73, R110, R130, R160). -/
def State.startTrack (h : Head) (demand : Nat) (s : State) : State :=
  match (s.queues.get h).ready with
  | some r =>
    { s with
      queues := s.queues.set h ((s.queues.get h).updHead TrackRecord.begin)
      channels := s.channels.set h
        { (s.channels.get h).enter .cutting with
          cellIndex := 0, accumulator := trackStart s.counts s.jobHalf r.number }
      monitors := s.monitors.set h (s.monitors.get h).clearRuns
      dbu := { s.dbu with demand := s.dbu.demand.set h demand } }
  | none => s

/-- The sheds of a GO: the shedding order over the channels about to start (R162). -/
def State.goSheds (s : State) : List Shed :=
  shedOrder (fun h => s.priority h) (fun h => s.nextDemand h) (fun h => s.active h)
    (s.budgetOf s.dbu.bank)

/-- The channels still active after the sheds start their tracks. -/
def State.startAll (demand : Head → Nat) (s : State) : State :=
  forHeads (fun h s => if s.active h then s.startTrack h (demand h) else s) s

/-- R40: the sheds, the track starts, FEED_EN and the hold count. -/
def State.go (s : State) : State :=
  let shed := s.shedAll .go (s.budgetOf s.dbu.bank)
    (sumDemands (fun h => s.nextDemand h) (allHeads.filter (fun h => s.active h))) s.goSheds
  let started := shed.startAll (fun h => s.nextDemand h)
  { started with ctu := { started.ctu with feedEn := started.anyCutting, holdCount := 0 } }

/-- A PRIMED or CUTTING channel becomes WAITING at a HOLD (R41). -/
def State.waitHead (h : Head) (s : State) : State :=
  if s.channelState h = .primed ∨ s.channelState h = .cutting then
    s.updChannel h (Channel.enter .waiting)
  else s

/-- The hold limit of the job (R95). -/
def State.holdLimit (s : State) : Nat :=
  match s.job.record with
  | some r => r.holdLimit
  | none => 0

/-- R41: FEED_EN, the channels, the HOLD event, the hold-revolution total and the hold limit. -/
def State.hold (s : State) : State :=
  let data := !noHead s.lacking
  let speed := !s.withinHard
  let atLimit := decide (s.ctu.holdCount = s.holdLimit)
  let count := if atLimit then s.ctu.holdCount else s.ctu.holdCount + 1
  let waiting := forHeads State.waitHead { s with ctu := { s.ctu with feedEn := false } }
  let posted := waiting.post (.hold data speed s.lacking count)
  let counted :=
    { posted with
      ctu := { posted.ctu with holdCount := count }
      rpt := { posted.rpt with holdTotal := saturate 65535 posted.rpt.holdTotal } }
  if atLimit then counted.abortJob (if data then .starved else .speed) else counted

/-- The decision of a boundary, made while the job is RUNNING with an active channel (R35, R39). -/
def State.decideRevolution (s : State) : State :=
  if s.job.state = .running && s.anyActive then (if s.granted then s.go else s.hold) else s

/-! ## The boundary -/

/-- Steps 3 and 4 of R35: the calibrations, then the channels. -/
def State.boundaryBlocks (slipped : Bool) (s : State) : State :=
  let cals := if slipped then s.failAllCals .encoderSlip else forHeads State.calBoundary s
  forHeads State.stopHead (forHeads State.retireHead cals)

/-- A revolution boundary taken at `time`, with the slip measured at it if one was (R35). The angle
counter is aligned from the first boundary on (R29). -/
def State.boundary (t : TimingSettings) (time : Nat) (slip : Option Int) (s : State) : State :=
  let slipped :=
    match slip with
    | some x => beyond t.slipTolerance x
    | none => false
  let noted :=
    match slip with
    | some x => s.noteSlip t x
    | none => s
  let timed := State.measurePeriod t time { noted with ctu := { noted.ctu with aligned := true } }
  let blocks := timed.boundaryBlocks slipped
  if slipped && jobCutting blocks.job.state then blocks.abortJob .encoderSlip else blocks.decideRevolution

end Sys2Proof.Machine
end

