-- ==== Sys2Proof/Machine/Calibrations.lean ====
section
/-! DEFINITION. The Calibration Unit's commands and its timer, and STYLUS WEAR (chapter 7, R119). -/

namespace Sys2Proof.Machine

/-! ## CALIBRATE (R140, R141) -/

/-- The position of the first parameter that step 1 of R140 refuses, in the order of R182. A pair out of
order names its second parameter (log entry 13). -/
def calibrateFailure (p : List Byte) : Option Nat :=
  firstFailure
    [(within 0 3 (field p 0 1), 1), (within 0 36 (field p 1 1), 2),
     (within 0 4095 (field p 2 2), 3), (within 0 4095 (field p 4 2), 4),
     (decide (field p 2 2 < field p 4 2), 4), (decide (1 ≤ field p 6 2), 5),
     (decide (field p 8 2 ≤ field p 10 2), 7), (within 0 1000 (field p 12 2), 8),
     (within 1 255 (field p 14 1), 9)]

/-- The parameters of a CALIBRATE with the working copies (R139, R141). -/
def calSetup (p : List Byte) (s : State) (h : Head) : CalSetup :=
  { codeLo := field p 2 2, codeHi := field p 4 2, cellsPerLevel := field p 6 2
    wMin := field p 8 2, wMax := field p 10 2, agreeTol := field p 12 2, timeout := field p 14 1
    cells := entryNat (s.store.slot (field p 1 1)).entries 0
    headcal := s.headcal h }

/-- The effect of an accepted CALIBRATE (R141). -/
def State.beginCal (h : Head) (u : CalSetup) (s : State) : State :=
  ((s.updCal h (fun _ => ⟨.waitIndex u, none, none, none, none⟩)).updChannel h
      (Channel.enter .calibrating)).updMonitor h
    (fun m => { m with params := some (hcMonitor u.headcal) })

/-- Steps 2 to 9 of R140 for a head and a screen slot: the status and data of the first that fails. -/
def State.calRefusal (p : List Byte) (h : Head) (s : State) : Option (Status × List Byte) :=
  let slot := field p 1 1
  let screen := s.store.slot slot
  let record := s.store.slot (headcalSlot h)
  let cells := entryNat screen.entries 0
  if s.channelState h ≠ .off then some (.headBusy, [])
  else if s.estopAsserted then some (.emergency, [])
  else if s.ctu.settings.isNone || s.ctu.resolved.isNone then some (.timing, [])
  else if !s.withinHard then some (.speed, [])
  else if slotKind slot ≠ .screen then some (.badParam, [])
  else if screen.state = .empty then some (.empty, [])
  else if screen.state = .committing then some (.busy, [])
  else if s.counts < 4 * cells then some (.geometry, [])
  else if cells / 2 < field p 6 2 then some (.badParam, be8 5)
  else if record.state = .empty then some (.empty, [])
  else if record.state = .committing then some (.busy, [])
  else none

/-- The checks and effect of CALIBRATE (R140, R141). -/
def calibrate (p : List Byte) (s : State) : Answer :=
  match calibrateFailure p, headOf (field p 0 1) with
  | some position, _ => (s, .badParam, be8 position)
  | none, none => (s, .badParam, be8 1)
  | none, some h =>
    match s.calRefusal p h with
    | some (status, data) => (s, status, data)
    | none =>
      (s.beginCal h (calSetup p s h), .started, be8 h.val ++ be16 (calSetup p s h).cells)

/-- CALIBRATE. -/
def execCalibrate (tag : Half) (params : List Byte) (s : State) : Result :=
  command .calibrate tag params (calibrate params) s

/-! ## CAL MEASURE and the fit (R146 to R148) -/

/-- The depth of a width: floor(width F / 4096) (R147). -/
def levelDepth (u : CalSetup) (width : Nat) : Nat := width * hcFactor u.headcal / 4096

/-- The gain of the fit (R148). -/
def fitGain (u : CalSetup) (depthLo depthHi : Nat) : Nat :=
  (u.codeHi - u.codeLo) * 1024 / (depthHi - depthLo)

/-- The base of the fit (R148). -/
def fitBase (u : CalSetup) (depthLo gain : Nat) : Int := (u.codeLo : Int) - ((depthLo * gain + 512) / 1024 : Nat)

/-- The outcome of the fit: a gain and a base, or the cause and contents of its failure (R148). -/
inductive FitResult where
  | fitted (gain : Nat) (base : Int)
  | failed (cause : CalCause) (detail : CalDetail)

/-- The fit over the two depths, stopping at the first step that fails (R148). -/
def fit (u : CalSetup) (depthLo depthHi : Nat) : FitResult :=
  if depthHi ≤ depthLo then .failed .fitOrder ⟨some (depthLo, depthHi), none, none⟩
  else if !within 256 16383 (fitGain u depthLo depthHi) then
    .failed .fitRange ⟨some (depthLo, depthHi), some (.gain (fitGain u depthLo depthHi)), none⟩
  else if fitBase u depthLo (fitGain u depthLo depthHi) < -4096 ||
      4095 < fitBase u depthLo (fitGain u depthLo depthHi) then
    .failed .fitRange
      ⟨some (depthLo, depthHi), some (.base (fitBase u depthLo (fitGain u depthLo depthHi))), none⟩
  else .fitted (fitGain u depthLo depthHi) (fitBase u depthLo (fitGain u depthLo depthHi))

/-- A successful fit: the proposal, CAL_RESULT, and the end of the calibration (R148). -/
def State.propose (h : Head) (u : CalSetup) (low high gain : Nat) (base : Int) (s : State) : State :=
  (((s.updCal h (fun r => { r with proposal := some ⟨gain, base⟩ })).post
    (.calResult h low high (levelDepth u low) (levelDepth u high) gain base
      (hcGain u.headcal).toNat (hcBase u.headcal)))).endCal h

/-- The fit at the measure that supplies the second level (R148). -/
def State.runFit (h : Head) (u : CalSetup) (low high : Nat) (s : State) : State :=
  match fit u (levelDepth u low) (levelDepth u high) with
  | .fitted gain base => s.propose h u low high gain base
  | .failed cause detail => s.failCal h cause detail

/-- The record with an accepted level width stored (R147). -/
def Calibration.store (level width : Nat) (r : Calibration) : Calibration :=
  if level = 0 then { r with lowWidth := some width } else { r with highWidth := some width }

/-- A level width accepted in AWAIT_MEASURE: stored, and the fit when both levels are present (R147). -/
def State.measured (h : Head) (u : CalSetup) (level width : Nat) (s : State) : State :=
  let stored := s.updCal h (Calibration.store level width)
  match (stored.cals.get h).lowWidth, (stored.cals.get h).highWidth with
  | some low, some high => stored.runFit h u low high
  | some _, none => stored
  | none, _ => stored

/-- The distance of two readings (R146). -/
def distance (a b : Nat) : Nat := max a b - min a b

/-- Steps 3 and 4 of R146 in AWAIT_MEASURE, and the accepted measure (R147; log entry 14). -/
def measureLevel (p : List Byte) (h : Head) (u : CalSetup) (s : State) : Answer :=
  let level := field p 1 1
  let wa := field p 2 2
  let wb := field p 4 2
  let aOut := !within u.wMin u.wMax wa
  let bOut := !within u.wMin u.wMax wb
  if aOut || bOut then (s, .outOfWindow, be8 (aOut.toNat + 2 * bOut.toNat))
  else if u.agreeTol < distance wa wb then (s, .disagree, be16 (distance wa wb))
  else
    (s.measured h u level ((wa + wb) / 2), .ok,
      be8 level ++ be16 ((wa + wb) / 2) ++ be16 (levelDepth u ((wa + wb) / 2)))

/-- The checks and effect of CAL MEASURE (R146, R147). -/
def calMeasure (p : List Byte) (s : State) : Answer :=
  match headOf (field p 0 1) with
  | none => (s, .badParam, [])
  | some h =>
    if 1 < field p 1 1 then (s, .badParam, [])
    else
      match (s.cals.get h).phase with
      | .none => (s, .notAwaiting, [])
      | .waitIndex _ => (s, .notAwaiting, [])
      | .cut _ => (s, .notAwaiting, [])
      | .awaitMeasure u => measureLevel p h u s

/-- CAL MEASURE. -/
def execCalMeasure (tag : Half) (params : List Byte) (s : State) : Result :=
  command .calMeasure tag params (calMeasure params) s

/-! ## CAL APPLY and CAL CANCEL (R22, R151, R154) -/

/-- The HEADCAL entries with a gain and a base in entries 0 and 1 (R22). -/
def appliedEntries (v : Proposal) (entries : List Entry) : List Entry :=
  (entries.set 0 (BitVec.ofNat 32 v.gain)).set 1 (BitVec.ofInt 32 v.base)

/-- The store with a proposal written into a VALID slot: contents, checksum, cursor (R22). -/
def Store.apply (slot : Nat) (v : Proposal) (t : Store) : Store :=
  (t.setSlot slot (Slot.holding .valid (appliedEntries v (t.slot slot).entries))).clearCursorOn slot

/-- The checks and effect of CAL APPLY (R22, R154). -/
def calApply (p : List Byte) (s : State) : Answer :=
  match headOf (field p 0 1) with
  | none => (s, .badParam, [])
  | some h =>
    match (s.cals.get h).proposal with
    | none => (s, .state, [])
    | some v =>
      match (s.store.slot (headcalSlot h)).state with
      | .empty => (s, .empty, [])
      | .committing => (s, .busy, [])
      | .bound => (s, .bound, [])
      | .valid =>
        let store := s.store.apply (headcalSlot h) v
        ({ s with store := store }.updCal h (fun r => { r with proposal := none }), .ok,
          be16 v.gain ++ beInt16 v.base ++ be16 (store.slot (headcalSlot h)).sum1 ++
            be16 (store.slot (headcalSlot h)).sum2)

/-- CAL APPLY. -/
def execCalApply (tag : Half) (params : List Byte) (s : State) : Result :=
  command .calApply tag params (calApply params) s

/-- The checks and effect of CAL CANCEL (R151). -/
def calCancel (p : List Byte) (s : State) : Answer :=
  match headOf (field p 0 1) with
  | none => (s, .badParam, [])
  | some h =>
    if s.calibrating h then (s.failCal h .cancelled CalDetail.plain, .ok, [])
    else (s, .state, be8 (channelStateCode (s.channelState h)))

/-- CAL CANCEL. -/
def execCalCancel (tag : Half) (params : List Byte) (s : State) : Result :=
  command .calCancel tag params (calCancel params) s

/-! ## The measurement timer (R145) -/

/-- The timer expires in AWAIT_MEASURE; a stopped timer does not expire (R145; log entry 23). -/
def State.measurementExpiry (h : Head) (s : State) : State :=
  if (s.cals.get h).timer.isSome && s.calibrating h then s.failCal h .timeout CalDetail.plain else s

/-- MEASUREMENT_TIMEOUT. -/
def execMeasurementTimeout (h : Head) (s : State) : Result := serve (State.measurementExpiry h) s

/-! ## STYLUS WEAR (R119) -/

/-- The checks and effect of STYLUS WEAR (R119). -/
def stylusWear (p : List Byte) (s : State) : Answer :=
  match headOf (field p 0 1) with
  | none => (s, .badParam, [])
  | some h =>
    if s.channelState h ≠ .off then (s, .headBusy, [])
    else
      (s.updChannel h (fun c => { c with wear := field p 1 2, wearSub := 0 }), .ok,
        be16 (s.channels.get h).wear)

/-- STYLUS WEAR. -/
def execStylusWear (tag : Half) (params : List Byte) (s : State) : Result :=
  command .stylusWear tag params (stylusWear params) s

end Sys2Proof.Machine
end

