-- ==== Sys2Proof/Machine/Reports.lean ====
section
/-! DEFINITION. The Report Unit's commands: NOTICE MASK, NOTICE SKIP, COUNTERS READ and COUNTERS CLEAR
(chapter 10). -/

namespace Sys2Proof.Machine

/-- The checks and effect of NOTICE MASK (R198). -/
def noticeMask (p : List Byte) (s : State) : Answer :=
  if 0x80000 ≤ field p 0 4 then (s, .badParam, be8 1)
  else
    ({ s with rpt := { s.rpt with mask := BitVec.ofNat 32 (field p 0 4) } }, .ok, be32 s.rpt.mask.toNat)

/-- NOTICE MASK. -/
def execNoticeMask (tag : Half) (params : List Byte) (s : State) : Result :=
  command .noticeMask tag params (noticeMask params) s

/-- The Report Unit with new skip settings and its skip counters at 0 (R200). -/
def Rpt.setSkips (n m : Nat) (r : Rpt) : Rpt :=
  { r with skipN := n, skipM := m, skips := PerHead.const ⟨0, 0⟩ }

/-- The checks and effect of NOTICE SKIP (R200). -/
def noticeSkip (p : List Byte) (s : State) : Answer :=
  match firstFailure [(within 1 16 (field p 0 1), 1), (within 1 255 (field p 1 1), 2)] with
  | some position => (s, .badParam, be8 position)
  | none =>
    ({ s with rpt := s.rpt.setSkips (field p 0 1) (field p 1 1) }, .ok,
      be8 s.rpt.skipN ++ be8 s.rpt.skipM)

/-- NOTICE SKIP. -/
def execNoticeSkip (tag : Half) (params : List Byte) (s : State) : Result :=
  command .noticeSkip tag params (noticeSkip params) s

/-- The nine cell counters in the order of R204's table, 3 bytes each (R205). -/
def cellCounterBytes (c : CellCounters) : List Byte :=
  be24 c.closed ++ be24 c.lowClamp ++ be24 c.highClamp ++ be24 c.codeClamp ++ be24 c.lift ++
    be24 c.deviation ++ be24 c.late ++ be24 c.missing ++ be24 c.duplicate

/-- The five 8-bit counters in the order of R204's table (R205). -/
def eventCounterBytes (c : HeadCounters) : List Byte :=
  [c.shortTracks, c.mismatches, c.refusedParts, c.toneClamped, c.stylusFaults]

/-- The check and data of COUNTERS READ (R205). -/
def countersRead (p : List Byte) (s : State) : Answer :=
  match headOf (field p 0 1) with
  | none => (s, .badParam, [])
  | some h =>
    (s, .ok,
      be8 h.val ++ cellCounterBytes (s.rpt.heads.get h).cells ++ eventCounterBytes (s.rpt.heads.get h) ++
        lastStopByte (s.channels.get h).lastStop ++ be16 (s.rpt.heads.get h).maxError ++
        be16 (s.channels.get h).wear)

/-- COUNTERS READ. -/
def execCountersRead (tag : Half) (params : List Byte) (s : State) : Result :=
  command .countersRead tag params (countersRead params) s

/-- The five 8-bit counters and the captured maximum error at 0 (R206). -/
def clearEventCounters (c : HeadCounters) : HeadCounters := { HeadCounters.zero with cells := c.cells }

/-- The check and effect of COUNTERS CLEAR (R206). -/
def countersClear (p : List Byte) (s : State) : Answer :=
  match headOf (field p 0 1) with
  | none => (s, .badParam, [])
  | some h =>
    (s.updCounters h clearEventCounters, .ok,
      eventCounterBytes (s.rpt.heads.get h) ++ be16 (s.rpt.heads.get h).maxError)

/-- COUNTERS CLEAR. -/
def execCountersClear (tag : Half) (params : List Byte) (s : State) : Result :=
  command .countersClear tag params (countersClear params) s

end Sys2Proof.Machine
end

