-- ==== Sys2Proof/Machine/General.lean ====
section
/-! DEFINITION. IDENTIFY, STATUS SNAPSHOT and RESET (R190, R202, R203, R191). -/

namespace Sys2Proof.Machine

/-! ## IDENTIFY -/

/-- The fifteen bytes of R190. -/
def identityBytes : List Byte :=
  be16 0x3a17 ++ be16 0x0410 ++ be8 0x02 ++ be8 4 ++ be8 16 ++ be8 8 ++ be8 8 ++ be8 4 ++ be8 1 ++
    be16 16384 ++ be16 2040

/-- IDENTIFY changes no state of the part (R190). -/
def identify (s : State) : Answer := (s, .ok, identityBytes)

/-- IDENTIFY. -/
def execIdentify (tag : Half) (params : List Byte) (s : State) : Result :=
  command .identify tag params identify s

/-! ## STATUS SNAPSHOT (R202) -/

/-- The Job items (log entry 11). -/
def snapshotJob (s : State) : List Byte :=
  be8 (jobStateCode s.job.state) ++ be16 s.jobTag ++
    optionalItem 1 (s.job.result.map (fun r => be8 (jobResultCode r))) ++
    optionalItem 1 (s.job.abortCause.map (fun c => be8 (stopCauseCode c)))

/-- The Cylinder items. -/
def snapshotCylinder (s : State) : List Byte :=
  flagByte s.ctu.settings.isSome ++ be8 (resolvedCode s.ctu.resolved) ++ be32 s.ctu.period ++
    flagByte s.ctu.periodValid ++ be32 s.rpt.maxDeviation ++ be8 s.ctu.holdCount ++
    be16 s.rpt.holdTotal ++ [s.rpt.slips, s.rpt.reverses]

/-- The Lines items: levels, the selected bank and the shed candidates. -/
def snapshotLines (s : State) : List Byte :=
  flagByte s.lines.estopN ++ flagByte s.lines.feedFault ++ flagByte s.ctu.feedEn ++
    be8 s.dbu.bank.toNat ++ headSetByte s.dbu.candidates

/-- The Store items. -/
def snapshotStore (s : State) : List Byte := slotByte s.store.owner ++ slotByte s.store.commit

/-- A last refusal: reason, track and offset. -/
def refusalBytes (r : PartRefusal) : List Byte :=
  be8 (refusalCode r.reason) ++ be16 r.track ++ be16 r.offset

/-- The items of one head. -/
def snapshotHead (s : State) (h : Head) : List Byte :=
  be8 (channelStateCode (s.channelState h)) ++ lastStopByte (s.channels.get h).lastStop ++
    countsBytes (s.queues.get h).counts ++ be16 (s.queues.get h).expected ++
    be16 (s.queues.get h).start ++ flagByte (s.queues.get h).finalSeen ++
    optionalItem 5 ((s.queues.get h).lastRefusal.map refusalBytes) ++
    be8 (calPhaseCode (s.cals.get h).phase) ++ flagByte (s.cals.get h).proposal.isSome

/-- The Link and reports items. -/
def snapshotReports (s : State) : List Byte :=
  [s.rpt.crcErrors, s.rpt.lengthErrors, s.rpt.kindErrors] ++ be32 s.rpt.mask.toNat ++
    be8 s.rpt.skipN ++ be8 s.rpt.skipM ++ s.rpt.flagBytes

/-- The capture of the whole part, in the order of R202. -/
def snapshotBytes (s : State) : List Byte :=
  snapshotJob s ++ snapshotCylinder s ++ snapshotLines s ++ snapshotStore s ++
    allHeads.flatMap (snapshotHead s) ++ snapshotReports s

/-- STATUS SNAPSHOT: the capture, and the clearing of the flags at the same event (R202, R203). -/
def statusSnapshot (s : State) : Answer :=
  ({ s with rpt := s.rpt.clearFlags }, .ok, snapshotBytes s)

/-- STATUS SNAPSHOT. -/
def execStatusSnapshot (tag : Half) (params : List Byte) (s : State) : Result :=
  command .statusSnapshot tag params statusSnapshot s

/-! ## RESET -/

/-- A slot at a soft reset: COMMITTING becomes EMPTY, BOUND becomes VALID (R24). -/
def Slot.softReset (v : Slot) : Slot := if v.state = .committing then Slot.blank else v.unbound

/-- The Table Store at a soft reset (R24). -/
def Store.softReset (t : Store) : Store :=
  { t.mapSlots Slot.softReset with owner := none, image := [], commit := none, cursor := none }

/-- A channel at a soft reset: OFF, with the accumulator and the cell index at 0 (R94, R122). -/
def Channel.softReset (c : Channel) : Channel :=
  { c.enter .off with accumulator := 0, cellIndex := 0 }

/-- A head's Cut Monitor at a soft reset (R138). -/
def Monitor.softReset (m : Monitor) : Monitor :=
  { m with history := [], liftRun := 0, deviationRun := 0, missingRun := 0 }

/-- Every block performs its soft reset (R191): the store by R24, the CTU by R46, the queues by R69, the
channels by R94 and R122, the monitor by R138, the calibrations by R156, the DBU by R169, the FLI by R192;
the Report Unit keeps everything (R209). -/
def State.softReset (s : State) : State :=
  { s with
    store := s.store.softReset
    ctu := { s.ctu with holdCount := 0, feedEn := false }
    job := { s.job with state := .setup, result := none, abortCause := none }
    channels := s.channels.mapIdx (fun _ c => c.softReset)
    queues := s.queues.mapIdx (fun _ q => q.emptied)
    monitors := s.monitors.mapIdx (fun _ m => m.softReset)
    cals := PerHead.const Calibration.afterReset
    dbu := Dbu.afterReset s.dbu.bank
    fli := { s.fli with notices := [] } }

/-- RESET: the soft reset, then the reply (R191). -/
def softReset (s : State) : Answer := (s.softReset, .ok, [])

/-- RESET. -/
def execReset (tag : Half) (params : List Byte) (s : State) : Result :=
  command .reset tag params softReset s

end Sys2Proof.Machine
end

