-- ==== Sys2Proof/Machine/Strokes.lean ====
section
/-! DEFINITION. Forward counts at the channels: the stroke generator, the strokes of tracks and test cuts,
and their entry into the monitor histories (R74, R75, R80, R90 to R92, R125, R143). -/

namespace Sys2Proof.Machine

/-! ## The monitor history -/

/-- A stroke appended as the newest entry, unmatched, the oldest leaving a full history (R125). -/
def pushEntry (e : HistoryEntry) (history : List HistoryEntry) : List HistoryEntry :=
  if Config.historyCapacity ≤ history.length then history.drop 1 ++ [e] else history ++ [e]

/-- The unmatched entry a new stroke pushes out of a full history, if there is one (R125). -/
def missingEntry (history : List HistoryEntry) : Option HistoryEntry :=
  match history with
  | e :: _ => if Config.historyCapacity ≤ history.length && !e.matched then some e else none
  | [] => none

/-- The Cut Monitor of a head with a stroke entered: a missing entry raises the missing run, which a
fault sets back to 0 (R125, R131). -/
def Monitor.enter (e : HistoryEntry) (m : Monitor) : Monitor :=
  { m with
    history := pushEntry e m.history
    missingRun :=
      if (missingEntry m.history).isNone then m.missingRun
      else if Config.missingLimit ≤ m.missingRun + 1 then 0 else m.missingRun + 1 }

/-- Whether the stroke raises MONITOR_LOST: a missing entry brings the missing run to its limit (R125). -/
def Monitor.losesStroke (m : Monitor) : Bool :=
  (missingEntry m.history).isSome && decide (Config.missingLimit ≤ m.missingRun + 1)

/-- Stage 3 of R75: the stroke is handed to the Cut Monitor; a missing entry is counted and may raise
MONITOR_LOST (R125, R131). -/
def State.enterStroke (h : Head) (word : Nat) (closed : Bool) (s : State) : State :=
  let m := s.monitors.get h
  let entered := s.updMonitor h (Monitor.enter ⟨(s.channels.get h).tag, word, closed, false⟩)
  match missingEntry m.history with
  | some e =>
    let counted := entered.updCells h (fun c => { c with missing := cellStep c.missing })
    if m.losesStroke then counted.raiseFault h .monitorLost (m.missingRun + 1) e.tag none else counted
  | none => entered

/-! ## Strokes -/

/-- The running sums of a CUTTING record advanced by a word (R90). -/
def TrackRecord.addWord (word : Nat) (r : TrackRecord) : TrackRecord :=
  match r.state with
  | .filling => r
  | .complete _ => r
  | .cutting m s1 s2 =>
    { r with state := .cutting m (sumStep (s1, s2) word).1 (sumStep (s1, s2) word).2 }

/-- The runout ring of a head in the job, if it names one (R72). -/
def State.ring (h : Head) (s : State) : Option (List Entry) :=
  match s.headEntry h with
  | some e => e.runout.map (fun i => (s.store.slot i).entries)
  | none => none

/-- The gradation curve of a head in the job (R72). -/
def State.curve (h : Head) (s : State) : List Entry :=
  match s.headEntry h with
  | some e => (s.store.slot e.gradation).entries
  | none => []

/-- The word, closed flag and clamps of the stroke of cell k of a track at an angle (R75, R81 to R88). -/
def State.trackStroke (h : Head) (r : TrackRecord) (angle : Nat) (s : State) : Stroke :=
  computeCell (s.headcal h) (s.curve h) (s.ring h) s.counts angle (s.channels.get h).wear
    (r.samples.getD (sampleIndex (s.channels.get h).cellIndex r.total s.jobCells) 0)

/-- Stages 2, 3, 5 and 6 of a stroke: port, monitor, wear, cell index and tag (R75, R80). -/
def State.emit (h : Head) (k : Stroke) (s : State) : State :=
  (((s.updChannel h (Channel.present k.word)).enterStroke h k.word k.closed).updChannel h
    (Channel.countWear k.closed)).updChannel h Channel.advance

/-- The accumulator set. -/
def State.setAccumulator (h : Head) (v : Nat) (s : State) : State :=
  s.updChannel h (fun c => { c with accumulator := v })

/-- A forward count at a channel in the cut of a track (R74, R75, R90, R92). -/
def State.trackCount (h : Head) (r : TrackRecord) (angle : Nat) (s : State) : State :=
  let c := s.channels.get h
  if c.cellIndex < s.jobCells then
    if c.accumulator + s.jobCells < s.counts then s.setAccumulator h (c.accumulator + s.jobCells)
    else
      let k := s.trackStroke h r angle
      (((s.setAccumulator h (c.accumulator + s.jobCells - s.counts)).updCells h (countStroke k)).updQueue h
        (Queue.updHead (TrackRecord.addWord k.word))).emit h k
  else s

/-- A forward count at a channel in the cut phase of a calibration (R80, R143). -/
def State.testCount (h : Head) (u : CalSetup) (s : State) : State :=
  let c := s.channels.get h
  if c.cellIndex < u.cells then
    if c.accumulator + u.cells < s.counts then s.setAccumulator h (c.accumulator + u.cells)
    else (s.setAccumulator h (c.accumulator + u.cells - s.counts)).emit h (testCell u c.cellIndex)
  else s

/-- What a channel cuts: the track in progress while CUTTING, the test pattern while CALIBRATING in the cut
phase, else nothing (R26). -/
inductive Cut where
  | nothing
  | track (r : TrackRecord)
  | test (u : CalSetup)

/-- What a head's channel cuts. -/
def State.cutOf (h : Head) (s : State) : Cut :=
  match s.channelState h with
  | .cutting =>
    match (s.queues.get h).inProgress with
    | some r => .track r
    | none => .nothing
  | .calibrating =>
    match (s.cals.get h).phase with
    | .none => .nothing
    | .waitIndex _ => .nothing
    | .cut u => .test u
    | .awaitMeasure _ => .nothing
  | .off => .nothing
  | .primed => .nothing
  | .waiting => .nothing
  | .done => .nothing
  | .parked => .nothing
  | .halted => .nothing

/-- A forward count handed to one channel with the angle it produced (R26, R74). -/
def State.countHead (angle : Nat) (h : Head) (s : State) : State :=
  match s.cutOf h with
  | .nothing => s
  | .track r => s.trackCount h r angle
  | .test u => s.testCount h u

/-- Whether the count strokes at a head whose history then loses its 64th unmatched entry in a run. -/
def State.countLoses (h : Head) (s : State) : Bool :=
  (s.monitors.get h).losesStroke &&
    match s.cutOf h with
    | .nothing => false
    | .track _ =>
      decide ((s.channels.get h).cellIndex < s.jobCells) &&
        decide (s.counts ≤ (s.channels.get h).accumulator + s.jobCells)
    | .test u =>
      decide ((s.channels.get h).cellIndex < u.cells) &&
        decide (s.counts ≤ (s.channels.get h).accumulator + u.cells)

/-- A MONITOR_LOST raised by the count acts after its stroke has been taken whole (R133). -/
def State.actLost (h : Head) (action : FaultAction) (s : State) : State :=
  s.actFault h .monitorLost action

/-- The count at one head, its MONITOR_LOST acting at once. -/
def State.countThenAct (angle : Nat) (h : Head) (s : State) : State :=
  if s.countLoses h then (s.countHead angle h).actLost h (s.faultAction h) else s.countHead angle h

/-- The count at one head, its MONITOR_LOST acting at once unless it aborts the job. -/
def State.countThenPark (angle : Nat) (h : Head) (s : State) : State :=
  if s.countLoses h && s.faultAction h != .aborted then
    (s.countHead angle h).actLost h (s.faultAction h)
  else s.countHead angle h

/-- The heads whose MONITOR_LOST, raised by the count, aborts the job. -/
def State.countAborts (h : Head) (s : State) : Bool := s.countLoses h && s.faultAction h == .aborted

/-- A forward count handed to all four channels with the angle it produced (R26). When a stroke of it
raises MONITOR_LOST under ABORT_JOB, a free value says whether the abort comes before or after the
strokes of the later heads (log entry 8). -/
def State.countAll (angle : Nat) (s : State) : State :=
  if s.countAborts 0 || s.countAborts 1 || s.countAborts 2 || s.countAborts 3 then
    let drawn := { s with choices := s.choices + 1 }
    if Config.abortFirst s.choices then forHeads (State.countThenAct angle) drawn
    else
      forHeads (fun h t => if s.countAborts h then t.actLost h .aborted else t)
        (forHeads (State.countThenPark angle) drawn)
  else forHeads (State.countThenAct angle) s

end Sys2Proof.Machine
end

