-- ==== Sys2Proof/Machine/Timing.lean ====
section
/-! DEFINITION. The Cylinder Timing Unit's command and events: TIMING SET, forward and reverse counts, the
index pulse, the stall and FEED_FAULT (chapter 2). -/

namespace Sys2Proof.Machine

/-! ## TIMING SET (R27, R28) -/

/-- The index source a parameter names (R27). -/
def sourceOf (n : Nat) : IndexSource := if n = 0 then .line else if n = 1 then .count else .auto

/-- The seven settings a TIMING SET carries (R182). -/
def timingParams (p : List Byte) : TimingSettings :=
  { counts := field p 0 4
    source := sourceOf (field p 4 1)
    slipTolerance := field p 5 1
    nominalPeriod := field p 6 4
    softWindow := field p 10 1
    hardWindow := field p 11 1
    stallTimeout := field p 12 2 }

/-- The position of the first parameter of a TIMING SET out of range (R27). -/
def timingFailure (p : List Byte) : Option Nat :=
  let t := timingParams p
  firstFailure
    [(within 4096 262144 t.counts, 1), (within 0 2 (field p 4 1), 2), (within 0 255 t.slipTolerance, 3),
     (within 10000 10000000 t.nominalPeriod, 4), (within 1 100 t.softWindow, 5),
     (within t.softWindow 200 t.hardWindow, 6), (within 10 10000 t.stallTimeout, 7)]

/-- The source a TIMING SET resolves at once (R28). -/
def resolveAtOnce : IndexSource → Option ResolvedSource
  | .line => some .line
  | .count => some .count
  | .auto => none

/-- An accepted TIMING SET (R28). -/
def State.setTiming (t : TimingSettings) (s : State) : State :=
  { s with
    ctu := { s.ctu with
      settings := some t
      angle := 0, aligned := false
      periodValid := false, reference := none
      stallRunning := true
      resolved := resolveAtOnce t.source
      autoCount := if t.source = .auto then 0 else s.ctu.autoCount }
    rpt := { s.rpt with maxDeviation := 0 } }

/-- The checks and effect of TIMING SET (R27). -/
def timingSet (p : List Byte) (s : State) : Answer :=
  if s.calibratingHead.isSome then (s, .headBusy, [])
  else
    match timingFailure p with
    | some position => (s, .badParam, be8 position)
    | none => (s.setTiming (timingParams p), .ok, [])

/-- TIMING SET. -/
def execTimingSet (tag : Half) (params : List Byte) (s : State) : Result :=
  command .timingSet tag params (timingSet params) s

/-! ## Encoder events -/

/-- The angle counter after a forward count (R29). -/
def nextAngle (t : TimingSettings) (angle : Nat) : Nat := (angle + 1) % t.counts

/-- A forward count under the resolved source LINE: an ordinary count (R30). -/
def State.lineCount (t : TimingSettings) (s : State) : State :=
  State.countAll (nextAngle t s.ctu.angle)
    { s with ctu := { s.ctu with angle := nextAngle t s.ctu.angle } }

/-- A forward count under COUNT: the wrapping count is the boundary and no count for the channels (R31). -/
def State.countCount (t : TimingSettings) (time : Nat) (s : State) : State :=
  if nextAngle t s.ctu.angle = 0 then
    State.boundary t time none { s with ctu := { s.ctu with angle := 0 } }
  else s.lineCount t

/-- A forward count while AUTO is unresolved: the 2E-th count resolves the source to COUNT and is the first
boundary (R32). -/
def State.autoStep (t : TimingSettings) (time : Nat) (s : State) : State :=
  if s.ctu.autoCount + 1 = 2 * t.counts then
    State.boundary t time none
      { s with ctu := { s.ctu with
                autoCount := s.ctu.autoCount + 1, angle := nextAngle t s.ctu.angle
                resolved := some .count } }
  else State.lineCount t { s with ctu := { s.ctu with autoCount := s.ctu.autoCount + 1 } }

/-- A forward count at the CTU; ignored while no settings are held (R26). -/
def State.forwardCount (time : Nat) (s : State) : State :=
  match s.ctu.settings with
  | none => s
  | some t =>
    match s.ctu.resolved with
    | some .line => s.lineCount t
    | some .count => s.countCount t time
    | none => s.autoStep t time

/-- FORWARD_COUNT. -/
def execForwardCount (time : Nat) (s : State) : Result := serve (State.forwardCount time) s

/-- A reverse count at the CTU (R34). -/
def State.reverseCount (s : State) : State :=
  match s.ctu.settings with
  | none => s
  | some _ =>
    ((State.post (.encoderReverse (s.rpt.reverses + 1) s.ctu.angle)
      { s with rpt := { s.rpt with reverses := s.rpt.reverses + 1 } }).abortIfCutting
        .encoderReverse).failAllCals .encoderReverse

/-- REVERSE_COUNT. -/
def execReverseCount (s : State) : Result := serve State.reverseCount s

/-- An index pulse that is a boundary under LINE: the slip is measured from the counter when it was aligned,
and the counter becomes 0 (R30, R33). -/
def State.linePulse (t : TimingSettings) (time : Nat) (s : State) : State :=
  State.boundary t time (if s.ctu.aligned then some (foldSlip t.counts s.ctu.angle) else none)
    { s with ctu := { s.ctu with angle := 0 } }

/-- The index pulse that resolves AUTO to LINE: the first boundary, with no slip (R32). -/
def State.resolvingPulse (t : TimingSettings) (time : Nat) (s : State) : State :=
  State.boundary t time none { s with ctu := { s.ctu with angle := 0, resolved := some .line } }

/-- An index pulse at the CTU; ignored without settings (R26) and under COUNT (R31). -/
def State.indexPulse (time : Nat) (s : State) : State :=
  match s.ctu.settings with
  | none => s
  | some t =>
    match s.ctu.resolved with
    | some .line => s.linePulse t time
    | some .count => s
    | none => s.resolvingPulse t time

/-- INDEX_PULSE. -/
def execIndexPulse (time : Nat) (s : State) : Result := serve (State.indexPulse time) s

/-! ## Stall and FEED_FAULT -/

/-- The expiry of the stall timer; a timer that is stopped does not expire (R38; log entry 23). -/
def State.stallExpiry (s : State) : State :=
  match s.ctu.settings with
  | none => s
  | some t =>
    if s.ctu.stallRunning then
      ((State.post (.stall t.stallTimeout)
        { s with ctu := { s.ctu with periodValid := false, reference := none, stallRunning := false } }).abortIfCutting
          .cylinderStall).failAllCals .cylinderStall
    else s

/-- STALL. -/
def execStall (s : State) : Result := serve State.stallExpiry s

/-- FEED_FAULT acted on: whenever it is asserted while the job is RUNNING or STOPPING, the job aborts
(R44). -/
def State.actFeedFault (s : State) : State :=
  if s.lines.feedFault then s.abortIfCutting .feedFault else s

/-- FEED_FAULT: the line goes to a level. While the part is held in reset only the line changes (R194). -/
def execFeedFault (level : Bool) (s : State) : Result :=
  serve State.actFeedFault { s with lines := { s.lines with feedFault := level } }

end Sys2Proof.Machine
end

