-- ==== Sys2Proof/Machine/Jobs.lean ====
section
/-! DEFINITION. The Job Controller's commands and the emergency stop: JOB DEFINE, ARM, DISARM, START, STOP,
ABORT, RELEASE, HEAD PARK and ESTOP (chapter 5). -/

namespace Sys2Proof.Machine

/-! ## JOB DEFINE (R96) -/

/-- Whether bit h of the head-set byte names a head (R182). -/
def inHeadSet (p : List Byte) (h : Head) : Bool := (p.getD 2 0).getLsbD h.val

/-- The offset of a head's four bytes among the parameters (R182). -/
def entryOffset (h : Head) : Nat := 4 + 4 * h.val

/-- The checks of a head's entry with their positions, made for the heads of the set (R96). -/
def headChecks (p : List Byte) (h : Head) : List (Bool × Nat) :=
  if inHeadSet p h then
    [(within 0 36 (field p (entryOffset h) 1), 4 + 4 * h.val),
     (within 0 36 (field p (entryOffset h + 1) 1) || field p (entryOffset h + 1) 1 == 0xff, 5 + 4 * h.val),
     (within 0 3 (field p (entryOffset h + 2) 1), 6 + 4 * h.val),
     (within 0 1 (field p (entryOffset h + 3) 1), 7 + 4 * h.val)]
  else []

/-- The position of the first field of a JOB DEFINE that fails (R96). -/
def defineFailure (p : List Byte) : Option Nat :=
  firstFailure
    ([(field p 0 2 != 0, 1), (within 1 15 (field p 2 1), 2), (within 0 36 (field p 3 1), 3)] ++
      allHeads.flatMap (headChecks p) ++
      [(within 1 255 (field p 22 1), 21), (within 1 16 (field p 23 1), 22),
       (within 1 255 (field p 24 1), 23)])

/-- What the record keeps for a head: its entry when it is in the set (R95, R96). -/
def definedEntry (p : List Byte) (h : Head) : Option HeadEntry :=
  if inHeadSet p h then
    some
      { gradation := field p (entryOffset h) 1
        runout :=
          if field p (entryOffset h + 1) 1 = 0xff then none else some (field p (entryOffset h + 1) 1)
        priority := field p (entryOffset h + 2) 1
        policy := if field p (entryOffset h + 3) 1 = 0 then .abortJob else .parkHead }
  else none

/-- The job record a JOB DEFINE carries (R95, R182). -/
def definedRecord (p : List Byte) : JobRecord :=
  { tag := field p 0 2
    screen := field p 3 1
    heads := PerHead.ofFn (definedEntry p)
    startTrack := field p 20 2
    holdLimit := field p 22 1
    skipN := field p 23 1
    skipM := field p 24 1 }

/-- The checks and effect of JOB DEFINE (R96). -/
def jobDefine (p : List Byte) (s : State) : Answer :=
  match defineFailure p with
  | some position => (s, .badParam, be8 position)
  | none => ({ s with job := { s.job with record := some (definedRecord p) } }, .ok, [])

/-- JOB DEFINE. -/
def execJobDefine (tag : Half) (params : List Byte) (s : State) : Result :=
  command .jobDefine tag params (jobDefine params) s

/-! ## ARM (R98, R99) -/

/-- The heads of the head set in ascending order. -/
def JobRecord.members (r : JobRecord) : List Head := allHeads.filter (fun h => (r.heads.get h).isSome)

/-- The gradation slot and the runout slot, when one is named, of a head, each with the kind it must have
(step 6 of R98). -/
def JobRecord.headTables (r : JobRecord) (h : Head) : List (Nat × SlotKind) :=
  match r.heads.get h with
  | some e =>
    (e.gradation, .gradation) ::
      (match e.runout with
       | some i => [(i, .runout)]
       | none => [])
  | none => []

/-- The slots of step 6 with the kind each must have, in the order of the check. -/
def JobRecord.tables (r : JobRecord) : List (Nat × SlotKind) :=
  (r.screen, .screen) :: r.members.flatMap r.headTables

/-- The slots of step 8 in the order of the check. -/
def JobRecord.fixedSlots (r : JobRecord) : List Nat := r.members.map headcalSlot ++ [budgetSlot]

/-- Every slot the job uses (R21). -/
def JobRecord.slots (r : JobRecord) : List Nat := r.tables.map Prod.fst ++ r.fixedSlots

/-- The status of a slot that is EMPTY or COMMITTING. -/
def Store.unreadable (t : Store) (i : Nat) : Option Status :=
  match (t.slot i).state with
  | .empty => some .empty
  | .committing => some .busy
  | .valid => none
  | .bound => none

/-- The first slot of step 6 that is of the wrong kind, EMPTY or COMMITTING, kind before state. -/
def Store.tableFault (t : Store) : List (Nat × SlotKind) → Option (Status × Nat)
  | [] => none
  | (i, kind) :: rest =>
    if slotKind i ≠ kind then some (.badParam, i)
    else
      match t.unreadable i with
      | some status => some (status, i)
      | none => t.tableFault rest

/-- The first slot of step 8 that is EMPTY or COMMITTING. -/
def Store.fixedFault (t : Store) : List Nat → Option (Status × Nat)
  | [] => none
  | i :: rest =>
    match t.unreadable i with
    | some status => some (status, i)
    | none => t.fixedFault rest

/-- The staging owner when it is one of the job's slots (step 9). -/
def Store.stagedSlot (t : Store) (slots : List Nat) : Option Nat :=
  match t.owner with
  | some i => if slots.contains i then some i else none
  | none => none

/-- The worst case of the job's heads under the present bank (step 10, R166). -/
def State.armSheds (r : JobRecord) (s : State) : List Shed :=
  s.worstCase (fun h => (r.heads.get h).isSome) s.dbu.bank

/-- The first head of priority 0 in a result of the shedding order (R166). -/
def State.firstVital (sheds : List Shed) (s : State) : Option Head :=
  (sheds.find? (fun x => s.priority x.head == 0)).map Shed.head

/-- The data of a refusal that names a step and a slot or head (R98; log entry 10). -/
def stepData (step named : Nat) : List Byte := be8 step ++ be8 named

/-- Steps 3 to 10 of R98 for a record: the status and data of the first that fails. -/
def State.armRefusal (r : JobRecord) (s : State) : Option (Status × List Byte) :=
  if s.estopAsserted then some (.emergency, be8 3)
  else if s.ctu.settings.isNone || s.ctu.resolved.isNone then some (.timing, be8 4)
  else
    match s.calibratingHead with
    | some h => some (.headBusy, stepData 5 h.val)
    | none =>
      match s.store.tableFault r.tables with
      | some (status, i) => some (status, stepData 6 i)
      | none =>
        if s.counts < 4 * s.jobCells then some (.geometry, be8 7)
        else
          match s.store.fixedFault r.fixedSlots with
          | some (status, i) => some (status, stepData 8 i)
          | none =>
            match s.store.stagedSlot r.slots with
            | some i => some (.staging, stepData 9 i)
            | none =>
              match s.firstVital (s.armSheds r) with
              | some h => some (.budget, stepData 10 h.val)
              | none => none

/-- Binding: a slot of the job becomes BOUND (R21). -/
def Store.bind (slots : List Nat) (t : Store) : Store :=
  slots.foldl (fun t i => t.setSlot i { t.slot i with state := .bound }) t

/-- The queue of a head prepared for the job (R68). -/
def Queue.prepared (start : Nat) : Queue := ⟨[], start, start, false, none⟩

/-- The channel of a head at ARM: PRIMED when it is in the set (R99). -/
def armedChannel (r : JobRecord) (h : Head) (c : Channel) : Channel :=
  if (r.heads.get h).isSome then c.enter .primed else c

/-- The Cut Monitor of a head at ARM: history and runs cleared, and for an engaged head the parameters
loaded (R99, R126, R130). -/
def armedMonitor (r : JobRecord) (headcal : Head → List Entry) (h : Head) (m : Monitor) : Monitor :=
  { history := [], liftRun := 0, deviationRun := 0, missingRun := 0
    params := if (r.heads.get h).isSome then some (hcMonitor (headcal h)) else m.params }

/-- Steps 1 to 7 of R99. -/
def State.engage (r : JobRecord) (s : State) : State :=
  { s with
    job := { s.job with state := .armed, result := none, abortCause := none }
    store := s.store.bind r.slots
    queues := PerHead.const (Queue.prepared r.startTrack)
    channels := s.channels.mapIdx (armedChannel r)
    monitors := s.monitors.mapIdx (armedMonitor r (fun h => s.headcal h))
    dbu := { s.dbu with candidates := shedSet (s.armSheds r) }
    rpt := s.rpt.armed r.skipN r.skipM }

/-- The effect of an ARM that succeeds (R99). -/
def State.armJob (r : JobRecord) (s : State) : State :=
  (s.engage r).post (.jobState r.tag .armed none none)

/-- The checks and effect of ARM. Step 1 is the availability check of R180 (R184). -/
def arm (s : State) : Answer :=
  match s.job.record with
  | none => (s, .state, be8 2)
  | some r =>
    match s.armRefusal r with
    | some (status, data) => (s, status, data)
    | none => (s.armJob r, .ok, [])

/-- ARM. -/
def execArm (tag : Half) (params : List Byte) (s : State) : Result := command .arm tag params arm s

/-! ## DISARM, START, STOP, RELEASE, ABORT -/

/-- The channel at DISARM or RELEASE: one that `leaves` becomes OFF (R100, R103). -/
def offIf (leaves : ChannelState → Bool) (c : Channel) : Channel :=
  if leaves c.state then c.enter .off else c

/-- The CHANNEL_STATE events of the channels that become OFF, in ascending head order (R100, R103, R117). -/
def State.offEvents (leaves : ChannelState → Bool) (s : State) : List Event :=
  (allHeads.filter (fun h => leaves (s.channelState h))).map (fun h =>
    .channelState h .off none none (s.queues.get h).counts.complete (s.queues.get h).counts.filling
      (s.queues.get h).emptied.counts)

/-- The channels that leave at DISARM: every one that is not OFF (R100). -/
def notOff (c : ChannelState) : Bool := c != .off

/-- The channels that leave at RELEASE: DONE, PARKED and HALTED (R103). -/
def departed (c : ChannelState) : Bool := c == .done || c == .parked || c == .halted

/-- What DISARM and RELEASE share: channels OFF, queues emptied, slots unbound, candidates empty, job SETUP
(R100, R103, R165). -/
def State.freeHeads (leaves : ChannelState → Bool) (s : State) : State :=
  { s with
    channels := s.channels.mapIdx (fun _ c => offIf leaves c)
    queues := s.queues.mapIdx (fun _ q => q.emptied)
    store := s.store.unbind
    dbu := { s.dbu with candidates := PerHead.const false }
    job := { s.job with state := .setup } }

/-- The effect of DISARM (R100). -/
def State.disarmJob (s : State) : State :=
  ((s.freeHeads notOff).postAll (s.offEvents notOff)).post (.jobState s.jobTag .setup none none)

/-- DISARM's answer (R100). -/
def disarm (s : State) : Answer := (s.disarmJob, .ok, [])

/-- DISARM. -/
def execDisarm (tag : Half) (params : List Byte) (s : State) : Result :=
  command .disarm tag params disarm s

/-- The effect of an accepted START; a FEED_FAULT already asserted aborts the job at the same event (R44,
R101). -/
def State.startJob (s : State) : State :=
  ((State.enterJob .running s.job.result s.job.abortCause
    { s with ctu := { s.ctu with holdCount := 0 } })).actFeedFault

/-- The checks and effect of START (R101). -/
def start (s : State) : Answer :=
  if s.estopAsserted then (s, .emergency, [])
  else if !s.withinHard then (s, .speed, [])
  else (s.startJob, .ok, [])

/-- START. -/
def execStart (tag : Half) (params : List Byte) (s : State) : Result := command .start tag params start s

/-- STOP: the job becomes STOPPING, and no channel changes (R102). -/
def stop (s : State) : Answer := (s.enterJob .stopping s.job.result s.job.abortCause, .ok, [])

/-- STOP. -/
def execStop (tag : Half) (params : List Byte) (s : State) : Result := command .stop tag params stop s

/-- The effect of RELEASE (R103): the result or abort cause is kept until the next ARM. -/
def State.releaseJob (s : State) : State :=
  (State.postAll (s.offEvents departed)
    { s.freeHeads departed with
      monitors := s.monitors.mapIdx (fun _ m => { m with history := [] }) }).post
    (.jobState s.jobTag .setup none none)

/-- RELEASE's answer (R103). -/
def release (s : State) : Answer := (s.releaseJob, .ok, [])

/-- RELEASE. -/
def execRelease (tag : Half) (params : List Byte) (s : State) : Result :=
  command .release tag params release s

/-- ABORT's answer (R106). -/
def abort (s : State) : Answer := (s.abortJob .abortCommand, .ok, [])

/-- ABORT. -/
def execAbort (tag : Half) (params : List Byte) (s : State) : Result := command .abort tag params abort s

/-! ## HEAD PARK (R115) -/

/-- The checks and effect of HEAD PARK (R115). -/
def headPark (p : List Byte) (s : State) : Answer :=
  match headOf (field p 0 1) with
  | none => (s, .badParam, [])
  | some h =>
    if s.active h then (s.leaveJob h .parked .parkCommand, .ok, [])
    else (s, .state, be8 (channelStateCode (s.channelState h)))

/-- HEAD PARK. -/
def execHeadPark (tag : Half) (params : List Byte) (s : State) : Result :=
  command .headPark tag params (headPark params) s

/-! ## The emergency stop (R107) -/

/-- A change of ESTOP_N acted on: the ESTOP event, and for an assertion the abort of the job and the failure
of every calibration (R107, R150). -/
def State.estopChange (level : Bool) (s : State) : State :=
  if level then s.post (.estop level)
  else ((s.post (.estop level)).abortJob .emergency).failAllCals .emergency

/-- ESTOP: the line changes to a level. While the part is held in reset only the line changes (R194); a
level equal to the present one is no change (log entry 5). -/
def execEstop (level : Bool) (s : State) : Result :=
  if s.inReset then .next { s with lines := { s.lines with estopN := level } }
  else if level = s.lines.estopN then .next s
  else serve (State.estopChange level) { s with lines := { s.lines with estopN := level } }

end Sys2Proof.Machine
end

