-- ==== Sys2Proof/Machine/Monitors.lean ====
section
/-! DEFINITION. Monitor samples: pairing, classification, run counts, deviations and stylus faults (chapter
6). -/

namespace Sys2Proof.Machine

/-- The expected value of a cut stroke (R129). -/
def expectedValue (p : MonitorParams) (word : Nat) : Nat := word * p.gain / 4096

/-- The error of a sample: its value less the expected value (R129). -/
def sampleError (p : MonitorParams) (word value : Nat) : Int := (value : Int) - expectedValue p word

/-- Whether an error is computed for a stroke: it is cut and not LIFT (R128, R129). -/
def errorComputed (p : MonitorParams) (e : HistoryEntry) (value : Nat) : Bool :=
  !e.closed && decide (p.liftThreshold ≤ value)

/-- The class of a paired stroke (R128, R129). -/
def classify (p : MonitorParams) (e : HistoryEntry) (value : Nat) : StrokeClass :=
  if e.closed then (if p.dragThreshold < value then .drag else .good)
  else if value < p.liftThreshold then .lift
  else if p.tolerance < (sampleError p e.word value).natAbs then
    (if 0 < sampleError p e.word value then .overcut else .undercut)
  else .good

/-- Whether a class is a deviation (R130, R134). -/
def isDeviation : StrokeClass → Bool
  | .good => false
  | .lift => false
  | .overcut => true
  | .undercut => true
  | .drag => true

/-- The lift run after a stroke of a class (R130). -/
def liftRunAfter (k : StrokeClass) (run : Nat) : Nat :=
  match k with
  | .lift => run + 1
  | .good => 0
  | .overcut => 0
  | .undercut => 0
  | .drag => 0

/-- The deviation run after a stroke of a class (R130). -/
def deviationRunAfter (k : StrokeClass) (run : Nat) : Nat := if isDeviation k then run + 1 else 0

/-- The fault a classified stroke raises, if a run reaches its limit (R130). -/
def raisedFault (p : MonitorParams) (k : StrokeClass) (m : Monitor) : Option StylusFault :=
  if k = .lift && decide (p.liftLimit ≤ liftRunAfter k m.liftRun) then some .stylusLift
  else if isDeviation k && decide (p.deviationLimit ≤ deviationRunAfter k m.deviationRun) then
    some .stylusDeviation
  else none

/-- The length of the run a fault of a classified stroke reports (R131). -/
def raisedRun (k : StrokeClass) (m : Monitor) : Nat :=
  if k = .lift then liftRunAfter k m.liftRun else deviationRunAfter k m.deviationRun

/-- The runs after a stroke: a run that raises a fault is set to 0 (R130, R131). -/
def Monitor.noteClass (p : MonitorParams) (k : StrokeClass) (m : Monitor) : Monitor :=
  { m with
    liftRun := if raisedFault p k m = some .stylusLift then 0 else liftRunAfter k m.liftRun
    deviationRun :=
      if raisedFault p k m = some .stylusDeviation then 0 else deviationRunAfter k m.deviationRun }

/-- The entry of a tag becomes matched, and the missing run 0 (R127). -/
def Monitor.pair (tag : BitVec 8) (m : Monitor) : Monitor :=
  { m with
    history := m.history.map (fun e => if e.tag = tag then { e with matched := true } else e)
    missingRun := 0 }

/-- The expected value and the error of a DEVIATION event: for OVER and UNDER (R134). -/
def deviationDepth (p : MonitorParams) (e : HistoryEntry) (k : StrokeClass) (value : Nat) :
    Option (Nat × Int) :=
  if k = .overcut ∨ k = .undercut then some (expectedValue p e.word, sampleError p e.word value) else none

/-- The counters a classified stroke moves: lift or deviation, and the captured maximum error (R129, R134,
R136). -/
def countClass (p : MonitorParams) (e : HistoryEntry) (k : StrokeClass) (value : Nat)
    (c : HeadCounters) : HeadCounters :=
  { c with
    cells :=
      { c.cells with
        lift := if k = .lift then cellStep c.cells.lift else c.cells.lift
        deviation := if isDeviation k then cellStep c.cells.deviation else c.cells.deviation }
    maxError :=
      if errorComputed p e value then max c.maxError (sampleError p e.word value).natAbs else c.maxError }

/-- A paired stroke classified: runs, counters, the DEVIATION event, and then the fault it raises (R130 to
R134). `m` is the head's monitor with the sample paired. At a stroke that raises STYLUS_DEVIATION the DEVIATION
event carries the run that reached the limit, not the 0 that R131 sets (log entry 34). -/
def State.classified (h : Head) (p : MonitorParams) (e : HistoryEntry) (value : Nat) (s : State) : State :=
  let m := s.monitors.get h
  let k := classify p e value
  let counted := (s.updMonitor h (Monitor.noteClass p k)).updCounters h (countClass p e k value)
  let noted :=
    if isDeviation k then
      counted.post (.deviation h e.tag k value (deviationDepth p e k value)
        (deviationRunAfter k m.deviationRun))
    else counted
  match raisedFault p k m with
  | some fault =>
    (noted.raiseFault h fault (raisedRun k m) e.tag (some value)).actFault h fault (noted.faultAction h)
  | none => noted

/-- The late counter. -/
def countLate (c : CellCounters) : CellCounters := { c with late := cellStep c.late }

/-- The duplicate counter. -/
def countDuplicate (c : CellCounters) : CellCounters := { c with duplicate := cellStep c.duplicate }

/-- The arrival of a sample (R127). Every entry was made after a load of parameters (R126), so the case of
none loaded is met by no run (log entry 19). -/
def State.sample (h : Head) (value : Nat) (tag : BitVec 8) (s : State) : State :=
  match (s.monitors.get h).history.find? (fun e => e.tag == tag) with
  | none => s.updCells h countLate
  | some e =>
    if e.matched then s.updCells h countDuplicate
    else
      let paired := s.updMonitor h (Monitor.pair tag)
      match (s.monitors.get h).params with
      | some p => paired.classified h p e value
      | none => paired

/-- MONITOR_SAMPLE. -/
def execMonitorSample (h : Head) (value : BitVec 10) (tag : BitVec 8) (s : State) : Result :=
  serve (State.sample h value.toNat tag) s

end Sys2Proof.Machine
end

