-- ==== Sys2Proof/Machine/Resets.lean ====
section
/-! DEFINITION. The full reset: RESET_N, power-on and the fall of a supply (R193 to R195). -/

namespace Sys2Proof.Machine

/-- Every block at its full-reset values (R23, R45, R70, R93, R121, R137, R155, R168, R193, R208). The
lines are outside the part and stay. The selected bank is read only at the end of the reset (R168; log entry
7), and FULL_RESET is set then. -/
def State.fullReset (s : State) : State :=
  { s with
    store := Store.afterReset
    ctu := Ctu.afterReset
    job := Job.afterReset
    channels := PerHead.const Channel.afterReset
    queues := PerHead.const Queue.afterReset
    monitors := PerHead.const Monitor.afterReset
    cals := PerHead.const Calibration.afterReset
    dbu := Dbu.afterReset s.dbu.bank
    fli := Fli.afterReset
    rpt := Rpt.afterReset false }

/-- The end of a full reset: the bank is read from the lines without a notice, and FULL_RESET is set
(R157, R194, R208). -/
def State.endReset (s : State) : State :=
  { s with dbu := { s.dbu with bank := s.lines.ps }, rpt := { s.rpt with fullReset := true } }

/-- The part leaves the held reset when nothing holds it any more (R194, R195). -/
def State.leaveHeld (s : State) : State := if s.inReset then s else s.endReset

/-- RESET_N asserted (R194). -/
def execResetNAssert (s : State) : Result :=
  .next (State.fullReset { s with lines := { s.lines with resetN := false } })

/-- RESET_N released: the part leaves the reset unless it holds itself for its supplies (R194, R195). A
release of a line that is not asserted is no change (log entry 21). -/
def execResetNRelease (s : State) : Result :=
  if s.lines.resetN then .next s
  else .next (State.leaveHeld { s with lines := { s.lines with resetN := true } })

/-- Power comes on: the part holds itself in full reset (R195). -/
def execPowerOn (s : State) : Result :=
  .next (State.fullReset { s with lines := { s.lines with powerHeld := true } })

/-- Supplies in range and the clock running: the part leaves its own hold, and the reset unless RESET_N is
still asserted (R195). -/
def execPowerOnRelease (s : State) : Result :=
  if s.lines.powerHeld then
    .next (State.leaveHeld { s with lines := { s.lines with powerHeld := false } })
  else .next s

/-- A supply falls below its range: back to the held reset (R195). -/
def execSupplyFall (s : State) : Result :=
  .next (State.fullReset { s with lines := { s.lines with powerHeld := true } })

end Sys2Proof.Machine
end

