-- ==== Sys2Proof/Machine/Tables.lean ====
section
/-! DEFINITION. The Table Store's frames, commands and commit completion (chapter 1). -/

namespace Sys2Proof.Machine

/-! ## Table data (R8 to R11, R179) -/

/-- The slot of a table-data payload, 0 when it is too short to hold the four fixed bytes (R179). -/
def dataSlot (payload : List Byte) : Nat := if payload.length < 4 then 0 else field payload 0 1

/-- Its entry offset, 0 when the payload is too short. -/
def dataOffset (payload : List Byte) : Nat := if payload.length < 4 then 0 else field payload 2 2

/-- Its entries. -/
def dataEntries (payload : List Byte) : List Entry := entriesOf (payload.drop 4)

/-- The form check: four fixed bytes and 1 to 256 whole entries (R179). -/
def dataWellFormed (payload : List Byte) : Bool :=
  4 ≤ payload.length && (payload.length - 4) % 4 == 0 && within 1 256 ((payload.length - 4) / 4)

/-- A runout value clamped on writing (R10). -/
def clampRunout (e : Entry) : Entry :=
  if e.toInt < -200 then BitVec.ofInt 32 (-200) else if 200 < e.toInt then 200 else e

/-- Whether a runout value is clamped. -/
def runoutClamped (e : Entry) : Bool := e.toInt < -200 || 200 < e.toInt

/-- The entries of a frame written around the ring from an offset (R10). -/
def ringWrite : List Entry → Nat → List Entry → List Entry
  | image, _, [] => image
  | image, offset, e :: rest =>
    ringWrite (image.set (offset % 256) (clampRunout e)) (offset + 1) rest

/-- What the write of a frame's entries to an image gives: the new image with the number of clamped
entries, or a refusal (R9, R10). -/
inductive WriteResult where
  | written (image : List Entry) (clamped : Nat)
  | refused (status : Status)

/-- The write of entries at an offset to an image of a kind (R9, R10). -/
def writeImage (kind : SlotKind) (image : List Entry) (offset : Nat) (entries : List Entry) :
    WriteResult :=
  match kind with
  | .runout => .written (ringWrite image offset entries) (entries.countP runoutClamped)
  | .gradation | .screen | .headcal | .budget =>
    if offset ≠ image.length then .refused .gap
    else if kindSize kind < offset + entries.length then .refused .length
    else .written (image ++ entries) 0

/-- The image an OPEN initialises (R8). -/
def openedImage (kind : SlotKind) (v : Slot) : List Entry :=
  match kind with
  | .runout => if v.state = .valid then v.entries else List.replicate 256 0
  | .gradation | .screen | .headcal | .budget => []

/-- The status an accepted write is answered with (R8, R10). -/
def writtenStatus (clamped : Nat) : Status := if clamped = 0 then .ok else .okClamped

/-- What the store gives for a table-data frame: the store after it, the status, and the number of
entries clamped. -/
abbrev StoreAnswer := Store × Status × Nat

/-- An OPEN frame at the store (R8). -/
def Store.openData (slot offset : Nat) (entries : List Entry) (t : Store) : StoreAnswer :=
  if 36 < slot then (t, .badParam, 0)
  else if 255 < offset then (t, .badParam, 0)
  else if t.commit.isSome then (t, .storeBusy, 0)
  else if t.owner.isSome && t.owner != some slot then (t, .stagingBusy, 0)
  else if (t.slot slot).state = .bound then (t, .bound, 0)
  else
    match writeImage (slotKind slot) (openedImage (slotKind slot) (t.slot slot)) offset entries with
    | .written image clamped => ({ t with owner := some slot, image := image }, writtenStatus clamped, clamped)
    | .refused status => (t, status, 0)

/-- A frame without OPEN at the store (R9, R10). -/
def Store.appendData (slot offset : Nat) (entries : List Entry) (t : Store) : StoreAnswer :=
  if 36 < slot then (t, .badParam, 0)
  else if 255 < offset then (t, .badParam, 0)
  else if t.owner ≠ some slot then (t, .noStaging, 0)
  else if t.commit = some slot then (t, .busy, 0)
  else
    match writeImage (slotKind slot) t.image offset entries with
    | .written image clamped => ({ t with image := image }, writtenStatus clamped, clamped)
    | .refused status => (t, status, 0)

/-- The reply to a table-data frame: slot, offset, the fill after the frame and the entries clamped
(R11). -/
def dataReply (payload : List Byte) (a : StoreAnswer) : ReturnFrame :=
  replyFrame 0x12 0 a.2.1
    (be8 (dataSlot payload) ++ be16 (dataOffset payload) ++ be16 a.1.image.length ++ be16 a.2.2)

/-- A table-data frame: the form check, then the store (R11, R179). -/
def State.tableFrame (payload : List Byte) (store : Nat → Nat → List Entry → Store → StoreAnswer)
    (s : State) : State :=
  let a : StoreAnswer :=
    if dataWellFormed payload then
      store (dataSlot payload) (dataOffset payload) (dataEntries payload) s.store
    else (s.store, .length, 0)
  { s with store := a.1 }.queueReply (dataReply payload a)

/-- TABLE_DATA_OPEN. -/
def execTableDataOpen (payload : List Byte) (s : State) : Result :=
  serve (State.tableFrame payload Store.openData) s

/-- TABLE_DATA. -/
def execTableData (payload : List Byte) (s : State) : Result :=
  serve (State.tableFrame payload Store.appendData) s

/-! ## Validation (R13, R14) -/

/-- Whether breakpoint `j` of `n` keeps the conditions of R13, given its entry and the one before it. -/
def breakpointOk (n j : Nat) (before e : Entry) : Bool :=
  highHalf e ≤ 1000 &&
    (if j = 0 then highHalf e == 0 else decide (highHalf before < highHalf e)) &&
    (if j + 1 = n then highHalf e == 1000 else true) &&
    lowHalf e ≤ 1000 &&
    (if j = 0 then true else decide (lowHalf before ≤ lowHalf e))

/-- The index of the first breakpoint entry, from breakpoint `j` on, that breaks a condition. -/
def badBreakpoint (n : Nat) (image : List Entry) : Nat → Nat → Option Nat
  | 0, _ => none
  | fuel + 1, j =>
    if breakpointOk n j (entryAt image j) (entryAt image (j + 1)) then badBreakpoint n image fuel (j + 1)
    else some (j + 1)

/-- The first offending entry of a GRADATION image (R13). -/
def gradationFault (image : List Entry) : Option Nat :=
  let n := entryNat image 0
  if image.length = 0 then some 0
  else if !entryIn image 0 2 32 then some 0
  else if image.length ≠ n + 1 then some (min image.length (n + 1))
  else badBreakpoint n image n 0

/-- The first offending entry of an image of fixed fill whose entries have ranges (R14). -/
def rangesFault (size : Nat) (image : List Entry) (ranges : List (Int × Int)) : Option Nat :=
  if image.length ≠ size then some image.length
  else firstFailure (ranges.zipIdx.map (fun r => (entryIn image r.2 r.1.1 r.1.2, r.2)))

/-- The ranges of a HEADCAL record; the maximum depth's starts at the cutoff depth (R3, R14). -/
def headcalRanges (image : List Entry) : List (Int × Int) :=
  [(256, 16383), (-4096, 4095), (0, 1000), (max 0 (hcCutoff image), 1000), (0, 4095), (1, 4095),
   (0, 8191), (0, 1023), (0, 1023), (0, 1023), (1, 255), (1, 255), (0, 2000), (0, 2000), (0, 255),
   (0, 200)]

/-- The index of the first offending entry of a staged image, none when it is valid (R13, R14). -/
def imageFault (kind : SlotKind) (image : List Entry) : Option Nat :=
  match kind with
  | .gradation => gradationFault image
  | .screen => rangesFault 2 image [(64, 65535), (0, 1)]
  | .runout => none
  | .headcal => rangesFault 16 image (headcalRanges image)
  | .budget => rangesFault 8 image (List.replicate 8 (0, 65535))

/-! ## Commands -/

/-- TABLE COMMIT taken with status STARTED: the slot becomes COMMITTING and gives up its contents, the
commit in flight is this slot and a cursor on it is cleared (R5, R12). -/
def Store.startCommit (slot : Nat) (t : Store) : Store :=
  { (t.setSlot slot { Slot.blank with state := .committing }).clearCursorOn slot with commit := some slot }

/-- The checks and effect of TABLE COMMIT (R12). -/
def tableCommit (p : List Byte) (s : State) : Answer :=
  let slot := field p 0 1
  if 36 < slot then (s, .badParam, [])
  else if s.store.commit.isSome then (s, .busy, [])
  else if (s.store.slot slot).state = .bound then (s, .bound, [])
  else if s.store.owner ≠ some slot then (s, .noStaging, [])
  else
    match imageFault (slotKind slot) s.store.image with
    | some i => (s, .invalid, be16 i)
    | none => ({ s with store := s.store.startCommit slot }, .started, [])

/-- TABLE COMMIT. -/
def execTableCommit (tag : Half) (params : List Byte) (s : State) : Result :=
  command .tableCommit tag params (tableCommit params) s

/-- The store after the completion of a commit (R15). -/
def Store.completeCommit (slot : Nat) (t : Store) : Store :=
  { t.setSlot slot (Slot.holding .valid t.image) with owner := none, image := [], commit := none }

/-- The timed copy ends; with no commit in flight there is none to end (R15; log entry 23). -/
def State.commitDone (s : State) : State :=
  match s.store.commit with
  | some slot =>
    State.post (.commitDone slot (checksum s.store.image).1 (checksum s.store.image).2)
      { s with store := s.store.completeCommit slot }
  | none => s

/-- COMMIT_COMPLETION. -/
def execCommitCompletion (s : State) : Result := serve State.commitDone s

/-- The checks and effect of TABLE ERASE (R17). -/
def tableErase (p : List Byte) (s : State) : Answer :=
  let slot := field p 0 1
  if 36 < slot then (s, .badParam, [])
  else
    match (s.store.slot slot).state with
    | .committing => (s, .busy, [])
    | .bound => (s, .bound, [])
    | .valid => ({ s with store := (s.store.setSlot slot Slot.blank).clearCursorOn slot }, .ok, [])
    | .empty => (s, .ok, [])

/-- TABLE ERASE. -/
def execTableErase (tag : Half) (params : List Byte) (s : State) : Result :=
  command .tableErase tag params (tableErase params) s

/-- The checks and effect of TABLE DISCARD (R18). -/
def tableDiscard (s : State) : Answer :=
  if s.store.commit.isSome then (s, .busy, [])
  else ({ s with store := { s.store with owner := none, image := [] } }, .ok, [])

/-- TABLE DISCARD. -/
def execTableDiscard (tag : Half) (params : List Byte) (s : State) : Result :=
  command .tableDiscard tag params tableDiscard s

/-- The entries a read-back gives from an offset (R19). -/
def readEntries (v : Slot) (offset : Nat) : List Entry := (v.entries.drop offset).take Config.readBlock

/-- The END mark: the last of the slot's entries is among those given, or has been given (R19, R20). -/
def readEnd (v : Slot) (offset : Nat) : Bool :=
  decide (v.entries.length ≤ offset + (readEntries v offset).length)

/-- The cursor after a read-back: the first entry not yet given (R19, R20). -/
def Store.moveCursor (slot offset : Nat) (t : Store) : Store :=
  { t with cursor := some ⟨slot, offset + (readEntries (t.slot slot) offset).length⟩ }

/-- Entries, then the END mark (R19, R20, R178; log entry 27). -/
def readTail (v : Slot) (offset : Nat) : List Byte :=
  (readEntries v offset).flatMap entryBytes ++ flagByte (readEnd v offset)

/-- The checks and effect of TABLE READ START (R19). -/
def tableReadStart (p : List Byte) (s : State) : Answer :=
  let slot := field p 0 1
  let offset := field p 1 2
  let v := s.store.slot slot
  if 36 < slot then (s, .badParam, [])
  else if v.state = .empty then (s, .empty, [])
  else if v.state = .committing then (s, .busy, [])
  else if v.entries.length ≤ offset then (s, .badParam, [])
  else
    ({ s with store := s.store.moveCursor slot offset }, .ok,
      be8 (slotStateCode v.state) ++ be16 v.entries.length ++ be16 v.sum1 ++ be16 v.sum2 ++ be16 offset ++
        readTail v offset)

/-- TABLE READ START. -/
def execTableReadStart (tag : Half) (params : List Byte) (s : State) : Result :=
  command .tableReadStart tag params (tableReadStart params) s

/-- The check and effect of TABLE READ CONTINUE (R20). -/
def tableReadContinue (s : State) : Answer :=
  match s.store.cursor with
  | none => (s, .noCursor, [])
  | some c =>
    ({ s with store := s.store.moveCursor c.slot c.offset }, .ok,
      be8 c.slot ++ be16 c.offset ++ readTail (s.store.slot c.slot) c.offset)

/-- TABLE READ CONTINUE. -/
def execTableReadContinue (tag : Half) (params : List Byte) (s : State) : Result :=
  command .tableReadContinue tag params tableReadContinue s

end Sys2Proof.Machine
end

