-- ==== Sys2Proof/Machine/TrackParts.lean ====
section
/-! DEFINITION. The arrival of a track part at its Track Queue, and TRACK DISCARD (chapter 3). -/

namespace Sys2Proof.Machine

/-! ## The fields of a part (R177) -/

/-- The fixed fields take 9 bytes (R177). -/
def partFixed : Nat := 9

/-- The flags of a part: FINAL in the least significant bit, SIG in the next (R177). -/
def partFlags (p : List Byte) : Byte := p.getD 8 0

/-- FINAL. -/
def partFinal (p : List Byte) : Bool := (partFlags p).getLsbD 0

/-- SIG. -/
def partSigned (p : List Byte) : Bool := (partFlags p).getLsbD 1

/-- The track number. -/
def partTrack (p : List Byte) : Nat := field p 0 2

/-- The job tag. -/
def partTag (p : List Byte) : Nat := field p 2 2

/-- The total S. -/
def partTotal (p : List Byte) : Nat := field p 4 2

/-- The part offset. -/
def partOffset (p : List Byte) : Nat := field p 6 2

/-- The bytes before the samples: the fixed fields, and four more when SIG is set. -/
def partHeader (p : List Byte) : Nat := if partSigned p then partFixed + 4 else partFixed

/-- The expected signature, when SIG is set. -/
def partSignature (p : List Byte) : Option (Nat × Nat) :=
  if partSigned p then some (field p 9 2, field p 11 2) else none

/-- The samples as they arrive. -/
def partSamples (p : List Byte) : List Nat := halvesOf (p.drop (partHeader p))

/-- A sample above 1000 is stored as 1000 (R60). -/
def clampTone (v : Nat) : Nat := min v 1000

/-- The samples as stored. -/
def storedSamples (p : List Byte) : List Nat := (partSamples p).map clampTone

/-- Whether at least one sample of the part is clamped (R60). -/
def partClamped (p : List Byte) : Bool := (partSamples p).any (fun v => decide (1000 < v))

/-- The form check (R52). -/
def partWellFormed (p : List Byte) : Bool :=
  decide (partHeader p ≤ p.length) && decide (partFixed ≤ p.length) &&
    (p.length - partHeader p) % 2 == 0 && within 1 2040 ((p.length - partHeader p) / 2) &&
    within 1 16384 (partTotal p)

/-! ## The checks (R52 to R58) -/

/-- The checks of a part that continues the FILLING record, and the check of its flags (R55, R56). -/
def continueReason (p : List Byte) (r : TrackRecord) : Option RefusalReason :=
  if partTrack p ≠ r.number then some .order
  else if partTotal p ≠ r.total then some .length
  else if partOffset p < r.filled then some .duplicate
  else if r.filled < partOffset p then some .gap
  else if r.total < partOffset p + (partSamples p).length then some .length
  else if partFinal p || partSigned p then some .badField
  else none

/-- The checks of a part that opens a track (R57, R58). They do not compare the number of samples with S (log
entry 32). -/
def openReason (p : List Byte) (q : Queue) : Option RefusalReason :=
  if partOffset p ≠ 0 then some .gap
  else if q.finalSeen then some .pastFinal
  else if partTrack p ≠ q.expected then
    if q.start ≤ partTrack p ∧ partTrack p < q.expected then some .duplicate else some .sequence
  else if partTrack p = 65535 ∧ partFinal p = false then some .badField
  else if Config.queueCapacity ≤ q.records.length then some .queueFull
  else none

/-- A head takes parts while the job is ARMED, RUNNING or STOPPING and its channel is active (R53). -/
def State.takesParts (h : Head) (s : State) : Bool := jobLive s.job.state && s.active h

/-- The reason a part is refused with, if it is (R52 to R58). -/
def State.partReason (h : Head) (p : List Byte) (s : State) : Option RefusalReason :=
  if !partWellFormed p then some .length
  else if !s.takesParts h then some .notEngaged
  else if partTag p ≠ s.jobTag then some .tag
  else
    match (s.queues.get h).filling? with
    | some r => continueReason p r
    | none => openReason p (s.queues.get h)

/-! ## Acceptance (R56, R58, R60, R61) -/

/-- The mean tone of a completed track (R61). -/
def meanTone (samples : List Nat) (total : Nat) : Nat := samples.sum / total

/-- A record with the samples of a part appended; it is COMPLETE when its filled count equals S (R56,
R61). -/
def TrackRecord.append (samples : List Nat) (r : TrackRecord) : TrackRecord :=
  { r with
    samples := r.samples ++ samples
    state :=
      if (r.samples ++ samples).length = r.total then .complete (meanTone (r.samples ++ samples) r.total)
      else .filling }

/-- The record an opening part begins, before its samples (R58). -/
def newRecord (p : List Byte) : TrackRecord :=
  ⟨partTrack p, partTotal p, partFinal p, partSignature p, [], .filling⟩

/-- The expected track number and the final-seen flag after a record was filled (R61). -/
def Queue.noteCompletion (r : TrackRecord) (q : Queue) : Queue :=
  if r.isComplete then
    { q with
      expected := if r.number = 65535 then 65535 else r.number + 1
      finalSeen := q.finalSeen || r.final }
  else q

/-- The FILLING record, which is the newest, replaced (R49, R56). -/
def Queue.replaceNewest (r : TrackRecord) (q : Queue) : Queue :=
  { q with records := q.records.dropLast ++ [r] }

/-- A queue with an accepted part (R56, R58, R61). -/
def Queue.accept (p : List Byte) (q : Queue) : Queue :=
  match q.filling? with
  | some r =>
    (q.replaceNewest (r.append (storedSamples p))).noteCompletion (r.append (storedSamples p))
  | none =>
    Queue.noteCompletion ((newRecord p).append (storedSamples p))
      { q with records := q.records ++ [(newRecord p).append (storedSamples p)] }

/-- The resume point of a queue (R51). -/
def Queue.resume (q : Queue) : Nat × Nat :=
  match q.filling? with
  | some r => (r.number, r.filled)
  | none => (q.expected, 0)

/-! ## The frame -/

/-- The track number a refusal reports: 0 when the payload is too short to hold its fixed fields (R52). -/
def refusedTrack (p : List Byte) : Nat := if p.length < partFixed then 0 else partTrack p

/-- The offset a refusal reports. -/
def refusedOffset (p : List Byte) : Nat := if p.length < partFixed then 0 else partOffset p

/-- A part accepted at a head (R51, R60). -/
def State.acceptPart (h : Head) (p : List Byte) (s : State) : State :=
  (s.updQueue h (Queue.accept p)).updCounters h (fun c =>
    if partClamped p then { c with toneClamped := c.toneClamped + 1 } else c)

/-- A part refused at a head: last refusal, refused-part counter, PART_REFUSED (R51). -/
def State.refusePart (h : Head) (p : List Byte) (reason : RefusalReason) (s : State) : State :=
  ((s.updQueue h (fun q =>
      { q with lastRefusal := some ⟨reason, refusedTrack p, refusedOffset p⟩ })).updCounters h
    (fun c => { c with refusedParts := c.refusedParts + 1 })).post
    (.partRefused (BitVec.ofNat 8 h.val) (some h) (refusedTrack p) (refusedOffset p) reason
      (s.queues.get h).resume.1 (s.queues.get h).resume.2)

/-- A frame whose header names no head: BAD_FIELD, resume point 0, 0; the track number and offset are 0
when the payload is too short to hold them (R51). -/
def State.refuseNoHead (headByte : Byte) (p : List Byte) (s : State) : State :=
  s.post (.partRefused headByte none (if p.length < 8 then 0 else partTrack p)
    (if p.length < 8 then 0 else partOffset p) .badField 0 0)

/-- A good TRACK_PART frame (R51). -/
def State.trackPart (headByte : Byte) (p : List Byte) (s : State) : State :=
  match headOf headByte.toNat with
  | none => s.refuseNoHead headByte p
  | some h =>
    match s.partReason h p with
    | some reason => s.refusePart h p reason
    | none => s.acceptPart h p

/-- TRACK_PART. -/
def execTrackPart (headByte : Byte) (payload : List Byte) (s : State) : Result :=
  serve (State.trackPart headByte payload) s

/-! ## TRACK DISCARD (R66) -/

/-- The FILLING record's buffer becomes FREE (R66). -/
def Queue.discardFilling (q : Queue) : Queue :=
  { q with records := q.records.filter (fun r => !r.isFilling) }

/-- The checks and effect of TRACK DISCARD (R66). -/
def trackDiscard (p : List Byte) (s : State) : Answer :=
  match headOf (field p 0 1) with
  | none => (s, .badParam, [])
  | some h =>
    match (s.queues.get h).filling? with
    | none => (s, .noneFilling, [])
    | some r => (s.updQueue h Queue.discardFilling, .ok, be16 r.number ++ be16 r.filled)

/-- TRACK DISCARD. -/
def execTrackDiscard (tag : Half) (params : List Byte) (s : State) : Result :=
  command .trackDiscard tag params (trackDiscard params) s

end Sys2Proof.Machine
end

