-- ==== Sys2Proof/Machine/Link.lean ====
section
/-! DEFINITION. The feed link's receive side, the routing of frames, and the end of a return frame (chapter
9). -/

namespace Sys2Proof.Machine

/-! ## Frames that no block owns -/

/-- UNKNOWN_COMMAND: answered UNKNOWN without data; no state changes (R180, R184). -/
def execUnknownCommand (code : Byte) (tag : Half) (s : State) : Result :=
  serve (fun s => State.answered code tag (s, .unknown, [])) s

/-- SHORT_COMMAND_PAYLOAD: answered LENGTH without data, the code taken as the first byte when there is one
and 00h otherwise, the tag as 0 (R181). -/
def execShortCommandPayload (payload : List Byte) (s : State) : Result :=
  serve (fun s => State.answered (payload.headD 0) 0 (s, .length, [])) s

/-- KIND_ERROR: a good frame of another kind is discarded as a link error of class KIND (R175, R176). -/
def execKindError (_kind : Byte) (s : State) : Result := serve (State.linkErrorOf .kind) s

/-! ## Routing (R175, R180) -/

/-- The command of a code, with its tag and parameters; a code no command carries is UNKNOWN_COMMAND
(R180, R182). -/
def commandOf (code : Byte) (tag : Half) (params : List Byte) : Instr :=
  if code = 0x01 then .identify tag params
  else if code = 0x02 then .statusSnapshot tag params
  else if code = 0x03 then .reset tag params
  else if code = 0x10 then .timingSet tag params
  else if code = 0x20 then .tableDiscard tag params
  else if code = 0x21 then .tableCommit tag params
  else if code = 0x22 then .tableErase tag params
  else if code = 0x23 then .tableReadStart tag params
  else if code = 0x24 then .tableReadContinue tag params
  else if code = 0x30 then .jobDefine tag params
  else if code = 0x31 then .arm tag params
  else if code = 0x32 then .disarm tag params
  else if code = 0x33 then .start tag params
  else if code = 0x34 then .stop tag params
  else if code = 0x35 then .abort tag params
  else if code = 0x36 then .release tag params
  else if code = 0x37 then .headPark tag params
  else if code = 0x38 then .trackDiscard tag params
  else if code = 0x40 then .calibrate tag params
  else if code = 0x41 then .calMeasure tag params
  else if code = 0x42 then .calApply tag params
  else if code = 0x43 then .calCancel tag params
  else if code = 0x44 then .stylusWear tag params
  else if code = 0x50 then .noticeMask tag params
  else if code = 0x51 then .noticeSkip tag params
  else if code = 0x52 then .countersRead tag params
  else if code = 0x53 then .countersClear tag params
  else .unknownCommand code tag

/-- The row a COMMAND payload spells: code, two tag bytes, parameters (R177, R181). -/
def commandPayload (payload : List Byte) : Instr :=
  match payload with
  | code :: t1 :: t0 :: params => commandOf code (t1 ++ t0) params
  | _ => .shortCommandPayload payload

/-- Whether a TABLE_DATA payload has its OPEN flag set (R177). -/
def dataOpens (payload : List Byte) : Bool := 2 ≤ payload.length && (payload.getD 1 0).getLsbD 0

/-- The row of the table a good frame is (R175). -/
def frameRow (kind head : Byte) (payload : List Byte) : Instr :=
  if kind = 0x11 then .trackPart head payload
  else if kind = 0x12 then
    (if dataOpens payload then .tableDataOpen payload else .tableData payload)
  else if kind = 0x13 then commandPayload payload
  else .kindError kind

/-- A good frame taken: the meaning of its own row (R171, R175). The rows that are no frame are named last;
no frame spells them. -/
def takeFrame (i : Instr) (s : State) : Result :=
  match i with
  | .identify tag params => execIdentify tag params s
  | .statusSnapshot tag params => execStatusSnapshot tag params s
  | .reset tag params => execReset tag params s
  | .timingSet tag params => execTimingSet tag params s
  | .tableDiscard tag params => execTableDiscard tag params s
  | .tableCommit tag params => execTableCommit tag params s
  | .tableErase tag params => execTableErase tag params s
  | .tableReadStart tag params => execTableReadStart tag params s
  | .tableReadContinue tag params => execTableReadContinue tag params s
  | .jobDefine tag params => execJobDefine tag params s
  | .arm tag params => execArm tag params s
  | .disarm tag params => execDisarm tag params s
  | .start tag params => execStart tag params s
  | .stop tag params => execStop tag params s
  | .abort tag params => execAbort tag params s
  | .release tag params => execRelease tag params s
  | .headPark tag params => execHeadPark tag params s
  | .trackDiscard tag params => execTrackDiscard tag params s
  | .calibrate tag params => execCalibrate tag params s
  | .calMeasure tag params => execCalMeasure tag params s
  | .calApply tag params => execCalApply tag params s
  | .calCancel tag params => execCalCancel tag params s
  | .stylusWear tag params => execStylusWear tag params s
  | .noticeMask tag params => execNoticeMask tag params s
  | .noticeSkip tag params => execNoticeSkip tag params s
  | .countersRead tag params => execCountersRead tag params s
  | .countersClear tag params => execCountersClear tag params s
  | .unknownCommand code tag => execUnknownCommand code tag s
  | .shortCommandPayload payload => execShortCommandPayload payload s
  | .trackPart headByte payload => execTrackPart headByte payload s
  | .tableDataOpen payload => execTableDataOpen payload s
  | .tableData payload => execTableData payload s
  | .kindError kind => execKindError kind s
  | .feedByte _ => .next s
  | .byteIntervalTimeout => .next s
  | .returnFrameSent => .next s
  | .commitCompletion => .next s
  | .forwardCount _ => .next s
  | .reverseCount => .next s
  | .indexPulse _ => .next s
  | .stall => .next s
  | .measurementTimeout _ => .next s
  | .estop _ => .next s
  | .feedFault _ => .next s
  | .bankChange _ => .next s
  | .monitorSample _ _ _ => .next s
  | .resetNAssert => .next s
  | .resetNRelease => .next s
  | .powerOn => .next s
  | .powerOnRelease => .next s
  | .supplyFall => .next s

/-! ## The receive side (R171 to R174) -/

/-- The receive side set to a state. -/
def State.receiving (r : Receive) (s : State) : State := { s with fli := { s.fli with receive := r } }

/-- A length error: the frame is discarded, a link error of class LENGTH is posted and the hunt starts
(R173). -/
def State.lengthError (s : State) : State := (s.linkErrorOf .length).receiving .hunt

/-- A CRC error: the frame is discarded, a link error of class CRC is posted and the hunt starts (R174). -/
def State.crcError (s : State) : State := (s.linkErrorOf .crc).receiving .hunt

/-- The state that follows the fourth header byte: the length decides (R171, R173). -/
def State.headerDone (kind head : Byte) (length : Nat) (s : State) : State :=
  if Config.maxPayload < length then s.lengthError
  else if length = 0 then s.receiving (.check kind head [] none)
  else s.receiving (.payload kind head length [])

/-- A byte in HEADER with the bytes stored before it (R171). -/
def State.headerByte (stored : List Byte) (b : Byte) (s : State) : State :=
  match stored with
  | [kind, head, lengthHigh] => s.headerDone kind head (beNat [lengthHigh, b])
  | _ => s.receiving (.header (stored ++ [b]))

/-- A byte in PAYLOAD: the L-th moves on to CHECK (R171). -/
def State.payloadByte (kind head : Byte) (length : Nat) (stored : List Byte) (b : Byte) (s : State) :
    State :=
  if length ≤ stored.length + 1 then s.receiving (.check kind head (stored ++ [b]) none)
  else s.receiving (.payload kind head length (stored ++ [b]))

/-- The second CRC byte: a good frame is taken, and the hunt starts (R171, R174). -/
def frameEnd (kind head : Byte) (payload : List Byte) (crcHigh b : Byte) (s : State) : Result :=
  if crc (covered kind head payload) = crcHigh ++ b then
    takeFrame (frameRow kind head payload) (s.receiving .hunt)
  else .next s.crcError

/-- A byte at the receive side (R171). -/
def receiveByte (b : Byte) (s : State) : Result :=
  match s.fli.receive with
  | .hunt => if b = 0xb5 then .next (s.receiving .sync) else .next s
  | .sync =>
    if b = 0x4e then .next (s.receiving (.header []))
    else if b = 0xb5 then .next s
    else .next (s.receiving .hunt)
  | .header stored => .next (s.headerByte stored b)
  | .payload kind head length stored => .next (s.payloadByte kind head length stored b)
  | .check kind head payload none => .next (s.receiving (.check kind head payload (some b)))
  | .check kind head payload (some crcHigh) => frameEnd kind head payload crcHigh b s

/-- FEED_BYTE; ignored while the part is held in reset (R194). -/
def execFeedByte (b : Byte) (s : State) : Result := if s.inReset then .next s else receiveByte b s

/-- More than 50 us without a byte: a frame under way is a length error, SYNC returns to HUNT uncounted, and
in HUNT no interval is timed (R172). -/
def State.intervalExpiry (s : State) : State :=
  match s.fli.receive with
  | .hunt => s
  | .sync => s.receiving .hunt
  | .header _ => s.lengthError
  | .payload _ _ _ _ => s.lengthError
  | .check _ _ _ _ => s.lengthError

/-- BYTE_INTERVAL_TIMEOUT. -/
def execByteIntervalTimeout (s : State) : Result := serve State.intervalExpiry s

/-- The last byte of the frame on the line has been sent: the line is free, and the arbiter acts (R188). With
nothing on the line there is no frame to end (log entry 23). -/
def State.lineFree (s : State) : State := { s with fli := { s.fli with line := none } }

/-- RETURN_FRAME_SENT. -/
def execReturnFrameSent (s : State) : Result := serve State.lineFree s

end Sys2Proof.Machine
end

