-- ==== Sys2Proof/Machine/Dispatch.lean ====
section
/-! DEFINITION. The meaning of every command and event, one arm per constructor of `Instr`. -/

namespace Sys2Proof.Machine

/-- The effect of a command or event on everything but the queue. -/
def exec (i : Instr) (s : State) : Host.Outcome State Fault Refusal :=
  match i with
  | .identify tag params => Sys2Proof.Machine.execIdentify tag params s
  | .statusSnapshot tag params => Sys2Proof.Machine.execStatusSnapshot tag params s
  | .reset tag params => Sys2Proof.Machine.execReset tag params s
  | .timingSet tag params => Sys2Proof.Machine.execTimingSet tag params s
  | .tableDiscard tag params => Sys2Proof.Machine.execTableDiscard tag params s
  | .tableCommit tag params => Sys2Proof.Machine.execTableCommit tag params s
  | .tableErase tag params => Sys2Proof.Machine.execTableErase tag params s
  | .tableReadStart tag params => Sys2Proof.Machine.execTableReadStart tag params s
  | .tableReadContinue tag params => Sys2Proof.Machine.execTableReadContinue tag params s
  | .jobDefine tag params => Sys2Proof.Machine.execJobDefine tag params s
  | .arm tag params => Sys2Proof.Machine.execArm tag params s
  | .disarm tag params => Sys2Proof.Machine.execDisarm tag params s
  | .start tag params => Sys2Proof.Machine.execStart tag params s
  | .stop tag params => Sys2Proof.Machine.execStop tag params s
  | .abort tag params => Sys2Proof.Machine.execAbort tag params s
  | .release tag params => Sys2Proof.Machine.execRelease tag params s
  | .headPark tag params => Sys2Proof.Machine.execHeadPark tag params s
  | .trackDiscard tag params => Sys2Proof.Machine.execTrackDiscard tag params s
  | .calibrate tag params => Sys2Proof.Machine.execCalibrate tag params s
  | .calMeasure tag params => Sys2Proof.Machine.execCalMeasure tag params s
  | .calApply tag params => Sys2Proof.Machine.execCalApply tag params s
  | .calCancel tag params => Sys2Proof.Machine.execCalCancel tag params s
  | .stylusWear tag params => Sys2Proof.Machine.execStylusWear tag params s
  | .noticeMask tag params => Sys2Proof.Machine.execNoticeMask tag params s
  | .noticeSkip tag params => Sys2Proof.Machine.execNoticeSkip tag params s
  | .countersRead tag params => Sys2Proof.Machine.execCountersRead tag params s
  | .countersClear tag params => Sys2Proof.Machine.execCountersClear tag params s
  | .unknownCommand code tag => Sys2Proof.Machine.execUnknownCommand code tag s
  | .shortCommandPayload payload => Sys2Proof.Machine.execShortCommandPayload payload s
  | .trackPart headByte payload => Sys2Proof.Machine.execTrackPart headByte payload s
  | .tableDataOpen payload => Sys2Proof.Machine.execTableDataOpen payload s
  | .tableData payload => Sys2Proof.Machine.execTableData payload s
  | .feedByte b => Sys2Proof.Machine.execFeedByte b s
  | .kindError kind => Sys2Proof.Machine.execKindError kind s
  | .byteIntervalTimeout => Sys2Proof.Machine.execByteIntervalTimeout s
  | .returnFrameSent => Sys2Proof.Machine.execReturnFrameSent s
  | .commitCompletion => Sys2Proof.Machine.execCommitCompletion s
  | .forwardCount time => Sys2Proof.Machine.execForwardCount time s
  | .reverseCount => Sys2Proof.Machine.execReverseCount s
  | .indexPulse time => Sys2Proof.Machine.execIndexPulse time s
  | .stall => Sys2Proof.Machine.execStall s
  | .measurementTimeout head => Sys2Proof.Machine.execMeasurementTimeout head s
  | .estop level => Sys2Proof.Machine.execEstop level s
  | .feedFault level => Sys2Proof.Machine.execFeedFault level s
  | .bankChange bank => Sys2Proof.Machine.execBankChange bank s
  | .monitorSample head value tag => Sys2Proof.Machine.execMonitorSample head value tag s
  | .resetNAssert => Sys2Proof.Machine.execResetNAssert s
  | .resetNRelease => Sys2Proof.Machine.execResetNRelease s
  | .powerOn => Sys2Proof.Machine.execPowerOn s
  | .powerOnRelease => Sys2Proof.Machine.execPowerOnRelease s
  | .supplyFall => Sys2Proof.Machine.execSupplyFall s

end Sys2Proof.Machine
end

