-- ==== Sys2Proof/Safety.lean ====
section
/-! DEFINITION. What a safe state of the BV-410 is: the properties the manual says hold in every state a run
reaches. Each is kept by every step and holds after a full reset. -/

namespace Sys2Proof.Machine

/-! ## Outputs and links -/

/-- A head's ENGAGE line is asserted exactly while its channel is CALIBRATING, PRIMED, CUTTING or WAITING
(R108). -/
def State.EngageExact (s : State) : Prop :=
  ∀ h : Head, (s.channels.get h).engage = engaged (s.channelState h)

/-- The queues of the return link within their capacities, and nothing waiting while the line is free
(R186, R187, R188). -/
def Fli.Orderly (f : Fli) : Prop :=
  f.replies.length ≤ 8 ∧ f.notices.length ≤ 32 ∧ (f.line = none → f.replies = [] ∧ f.notices = [])

/-- A feed frame under way keeps the counts of R171: fewer than four header bytes, fewer payload bytes than its
length, and a length of at most 4096. -/
def Receive.Counted (r : Receive) : Prop :=
  match r with
  | .hunt => True
  | .sync => True
  | .header bytes => bytes.length < 4
  | .payload _ _ length bytes => bytes.length < length ∧ length ≤ 4096
  | .check _ _ bytes _ => bytes.length ≤ 4096

/-! ## Cut Monitor -/

/-- The history of a head whose next stroke tag is `tag` holds its latest strokes, at most 16, in the order of
their tags (R124). -/
def historyOrdered (tag : BitVec 8) (history : List HistoryEntry) : Prop :=
  history.length ≤ 16 ∧
    ∀ i (hi : i < history.length), history[i].tag = tag - BitVec.ofNat 8 (history.length - i)

/-- Every history holds the latest strokes of its channel (R124). -/
def State.HistoriesOrdered (s : State) : Prop :=
  ∀ h : Head, historyOrdered (s.channels.get h).tag (s.monitors.get h).history

/-! ## Table Store -/

/-- A slot in EMPTY or COMMITTING holds no contents and zero sums; a VALID or BOUND slot's sums are the checksum
of its contents (R5, R6). -/
def Slot.Wf (v : Slot) : Prop :=
  match v.state with
  | .empty => v.entries = [] ∧ v.sum1 = 0 ∧ v.sum2 = 0
  | .committing => v.entries = [] ∧ v.sum1 = 0 ∧ v.sum2 = 0
  | .valid => (v.sum1, v.sum2) = checksum v.entries
  | .bound => (v.sum1, v.sum2) = checksum v.entries

/-- The commit in flight is the one COMMITTING slot and owns the staging area (R7, R12); an idle area is empty
(R7); the cursor stands on readable contents (R20). -/
structure Store.Wf (t : Store) : Prop where
  slots : ∀ i, i < 37 → (t.slot i).Wf
  committing : ∀ i, (t.slot i).state = .committing ↔ t.commit = some i
  owned : ∀ i, t.commit = some i → t.owner = some i
  owner : ∀ i, t.owner = some i → i < 37
  idle : t.owner = none → t.image = []
  cursor : ∀ c, t.cursor = some c →
    ((t.slot c.slot).state = .valid ∨ (t.slot c.slot).state = .bound) ∧
      c.offset ≤ (t.slot c.slot).entries.length

/-- An image a slot of a kind may hold: it passes the validation of its kind, and a runout ring has 256 values
in -200 to 200 (R4, R13, R14). -/
def ImageOk (kind : SlotKind) (image : List Entry) : Prop :=
  imageFault kind image = none ∧
    (kind = .runout → image.length = 256 ∧ ∀ e ∈ image, -200 ≤ e.toInt ∧ e.toInt ≤ 200)

/-- Every VALID or BOUND slot, and every image in commit, passes the validation of its kind; a staged runout
ring is whole and clamped (R4, R10, R12 to R15, R22); a proposal lies in the ranges of R139. -/
structure State.TablesChecked (s : State) : Prop where
  held : ∀ i, (s.store.slot i).state = .valid ∨ (s.store.slot i).state = .bound →
    ImageOk (slotKind i) (s.store.slot i).entries
  committed : ∀ i, s.store.commit = some i → ImageOk (slotKind i) s.store.image
  ring : ∀ i, s.store.owner = some i → slotKind i = .runout → ImageOk .runout s.store.image
  proposals : ∀ (h : Head) p, (s.cals.get h).proposal = some p →
    256 ≤ p.gain ∧ p.gain ≤ 16383 ∧ -4096 ≤ p.base ∧ p.base ≤ 4095

/-! ## Track Queues -/

/-- A record stands directly before another: its track number is one less, it is not FILLING and not FINAL, and
the other is not CUTTING (R49, R59). -/
def follows (a b : TrackRecord) : Prop :=
  b.number = a.number + 1 ∧ a.isFilling = false ∧ a.final = false ∧ b.isCutting = false

/-- Every record of a list stands directly before the next (R49). -/
def inOrder : List TrackRecord → Prop
  | a :: b :: rest => follows a b ∧ inOrder (b :: rest)
  | _ => True

/-- The shape of a Track Queue: at most four records, each in order behind the one before, the newest at or just
before the expected number; only a FINAL track has the number 65535; every sample in 0 to 1000 (R47, R49, R57,
R58, R61). -/
structure Queue.Shaped (q : Queue) : Prop where
  size : q.records.length ≤ 4
  order : inOrder q.records
  newest : ∀ r, q.records.getLast? = some r →
    if r.isFilling then r.number = q.expected ∧ q.finalSeen = false
    else q.finalSeen = r.final ∧ (r.final = false → q.expected = r.number + 1)
  last : ∀ r ∈ q.records, r.number = 65535 → r.final = true
  tones : ∀ r ∈ q.records, ∀ v ∈ r.samples, v ≤ 1000

/-- Every Track Queue has the shape of R49. -/
def State.QueuesShaped (s : State) : Prop := ∀ h : Head, (s.queues.get h).Shaped

/-! ## The job and its channels -/

/-- What holds between the job state and one channel (R53, R67, R99, R104, R108, R139, R160). -/
structure State.HeadCoherent (s : State) (h : Head) : Prop where
  calibrating : s.calibrating h = true ↔ s.channelState h = .calibrating
  cutting : s.channelState h = .cutting ↔ (s.queues.get h).inProgress.isSome = true
  setup : s.job.state = .setup → s.channelState h = .off ∨ s.channelState h = .calibrating
  outside : s.job.state ≠ .setup →
    s.channelState h ≠ .calibrating ∧ (s.channelState h = .off ↔ s.headEntry h = none)
  armed : s.job.state = .armed →
    s.channelState h = .off ∨ s.channelState h = .primed ∨ s.channelState h = .parked
  finished : s.job.state = .ended ∨ s.job.state = .aborted → s.active h = false
  demand : s.channelState h ≠ .cutting → s.dbu.demand.get h = 0
  emptied : s.active h = false → (s.queues.get h).records = []

/-- What holds between the job, the channels and the carriage (R42, R43, R95, R96, R104). -/
structure State.JobCoherent (s : State) : Prop where
  heads : ∀ h : Head, s.HeadCoherent h
  live : jobLive s.job.state = s.anyActive
  feed : s.ctu.feedEn = s.anyCutting
  held : jobCutting s.job.state = true → s.ctu.holdCount ≤ s.holdLimit
  defined : s.job.state ≠ .setup → s.job.record.isSome = true
  named : ∀ r, s.job.record = some r → ∃ h : Head, (r.heads.get h).isSome = true

/-- A slot is BOUND only while the job state is not SETUP, and every slot the job uses is then BOUND (R21,
R99). -/
structure State.BindingExact (s : State) : Prop where
  setup : s.job.state = .setup → ∀ i, (s.store.slot i).state ≠ .bound
  bound : s.job.state ≠ .setup → ∀ r, s.job.record = some r →
    ∀ i ∈ r.slots, (s.store.slot i).state = .bound

/-- A part held in full reset has no job: its job state is SETUP (R121, R194). -/
def State.HeldClear (s : State) : Prop := s.inReset = true → s.job.state = .setup

/-- The summed demand never exceeds the budget of the selected bank (R160). -/
def State.WithinBudget (s : State) : Prop := s.summedDemand ≤ s.budgetOf s.dbu.bank

end Sys2Proof.Machine
end

