-- ==== Sys2Proof/WellFormed.lean ====
section
/-! DEFINITION. Which terms of `Instr` spell an event of the part. A term that fails a check stands for
no frame the link can carry (log entry 18). -/

namespace Sys2Proof

/-- The codes of R182's table: the commands of the part. -/
def commandCodes : List Byte :=
  [0x01, 0x02, 0x03, 0x10, 0x20, 0x21, 0x22, 0x23, 0x24,
   0x30, 0x31, 0x32, 0x33, 0x34, 0x35, 0x36, 0x37, 0x38,
   0x40, 0x41, 0x42, 0x43, 0x44, 0x50, 0x51, 0x52, 0x53]

/-- A payload has at most 4096 bytes (R173, R177); a command's holds its code and tag besides. -/
def paramsFit (params : List Byte) : Bool := params.length ≤ 4093

/-- OPEN is the least significant bit of the second payload byte (R177); a payload without that byte
carries no flag. -/
def carriesOpen (payload : List Byte) : Bool :=
  match payload with
  | _ :: flags :: _ => flags.getLsbD 0
  | _ => false

/-- The well-formed terms: every check is the condition of the row the constructor stands for. -/
def Instr.wellFormed : Instr → Bool
  | .identify _ p => paramsFit p
  | .statusSnapshot _ p => paramsFit p
  | .reset _ p => paramsFit p
  | .timingSet _ p => paramsFit p
  | .tableDiscard _ p => paramsFit p
  | .tableCommit _ p => paramsFit p
  | .tableErase _ p => paramsFit p
  | .tableReadStart _ p => paramsFit p
  | .tableReadContinue _ p => paramsFit p
  | .jobDefine _ p => paramsFit p
  | .arm _ p => paramsFit p
  | .disarm _ p => paramsFit p
  | .start _ p => paramsFit p
  | .stop _ p => paramsFit p
  | .abort _ p => paramsFit p
  | .release _ p => paramsFit p
  | .headPark _ p => paramsFit p
  | .trackDiscard _ p => paramsFit p
  | .calibrate _ p => paramsFit p
  | .calMeasure _ p => paramsFit p
  | .calApply _ p => paramsFit p
  | .calCancel _ p => paramsFit p
  | .stylusWear _ p => paramsFit p
  | .noticeMask _ p => paramsFit p
  | .noticeSkip _ p => paramsFit p
  | .countersRead _ p => paramsFit p
  | .countersClear _ p => paramsFit p
  | .unknownCommand code _ => !commandCodes.contains code
  | .shortCommandPayload payload => payload.length < 3
  | .trackPart _ payload => payload.length ≤ 4096
  | .tableDataOpen payload => payload.length ≤ 4096 && carriesOpen payload
  | .tableData payload => payload.length ≤ 4096 && !carriesOpen payload
  | .feedByte _ => true
  | .kindError kind => !([0x11, 0x12, 0x13] : List Byte).contains kind
  | .byteIntervalTimeout => true
  | .returnFrameSent => true
  | .commitCompletion => true
  | .forwardCount _ => true
  | .reverseCount => true
  | .indexPulse _ => true
  | .stall => true
  | .measurementTimeout _ => true
  | .estop _ => true
  | .feedFault _ => true
  | .bankChange _ => true
  | .monitorSample _ _ _ => true
  | .resetNAssert => true
  | .resetNRelease => true
  | .powerOn => true
  | .powerOnRelease => true
  | .supplyFall => true

end Sys2Proof
end

