-- ==== Sys2Proof/Certificates/Slice0/Obligations.lean ====
section
/-! DEFINITION. The statements for the provers, by chapter of the manual, with the expressions they share. Each
statement of a command's result gives the whole next state, so that it is also the command's frame. -/

open Sys2Proof Sys2Proof.Machine

namespace Sys2Proof.Claims

/-- A state after its command has been answered: the reply is queued or lost, and then the return arbiter acts
(R183, R186, R188). -/
def answer (code : Byte) (tag : Half) (status : Status) (data : List Byte) (s : State) : State :=
  (s.queueReply (replyFrame code tag status data)).arbitrate

/-- A step of a sequence of outcomes: it goes on only from a next state. -/
def andThen (r : Result) (f : State → Result) : Result :=
  match r with
  | .next s => f s
  | .fault e => .fault e
  | .refused e => .refused e

/-- An item that may be absent, behind its presence byte (R178). -/
def maybe (width : Nat) (item : Option (List Byte)) : List Byte :=
  match item with
  | some bytes => 1 :: bytes
  | none => 0 :: List.replicate width 0

/-- A yes-or-no item (R178). -/
def yes (b : Bool) : List Byte := [if b then 1 else 0]

/-- The feed bytes of a list taken one after another, each by its own row. -/
def feed : List Byte → State → Result
  | [], s => .next s
  | b :: rest, s => andThen (exec (.feedByte b) s) (feed rest)

end Sys2Proof.Claims

open Sys2Proof.Claims

/-! ## The step and the queue of waiting events -/

/-- A step takes the event at the front of the queue and runs it with the queue's rest. -/
def Sys2Proof.Claims.StepTakesFrontEvent : Prop :=
  ∀ (c : Instr) (rest : List Instr) (s : State),
    s.pending = c :: rest → step s = exec c { s with pending := rest }

/-- With no event waiting the part idles: the model's choice (log entry 1). -/
def Sys2Proof.Claims.EmptyQueueIdles : Prop := ∀ s : State, s.pending = [] → step s = .next s

/-- Every row answers a next state in every state, for the part has no behaviour that stops it, and leaves the queue of
waiting events alone, which is the model's own (log entry 1). -/
def Obligations.EveryEventCompletes : Prop :=
  ∀ (c : Instr) (s : State), ∃ t : State, exec c s = .next t ∧ t.pending = s.pending

/-! ## Resets (R191 to R195) -/

namespace Sys2Proof.Claims

/-- Every block at its full-reset values. The strobe counters and `choices` are the model's own. -/
def cleared (lines : Lines) (s : State) : State :=
  { store := ⟨Vector.replicate 37 ⟨.empty, [], 0, 0⟩, none, [], none, none⟩
    ctu :=
      { settings := none, resolved := none, autoCount := 0, angle := 0, aligned := false, period := 0
        periodValid := false, reference := none, stallRunning := false, holdCount := 0, feedEn := false }
    job := { record := none, state := .setup, result := none, abortCause := none }
    channels := PerHead.const
      { state := .off, engage := false, accumulator := 0, cellIndex := 0, tag := 0, wear := 0
        wearSub := 0, lastStop := none, portWord := 0, portTag := 0, strobes := 0 }
    queues := PerHead.const
      { records := [], expected := 0, start := 0, finalSeen := false, lastRefusal := none }
    monitors := PerHead.const
      { history := [], liftRun := 0, deviationRun := 0, missingRun := 0, params := none }
    cals := PerHead.const
      { phase := .none, lowWidth := none, highWidth := none, timer := none, proposal := none }
    dbu := { bank := s.dbu.bank, demand := PerHead.const 0, candidates := PerHead.const false }
    fli := { receive := .hunt, replies := [], notices := [], line := none }
    rpt :=
      { mask := 0x7ffff, skipN := 1, skipM := 1, skips := PerHead.const ⟨0, 0⟩, kindFlags := 0
        noticeLost := false, replyLost := false, linkError := false, fullReset := false
        heads := PerHead.const
          { cells := ⟨0, 0, 0, 0, 0, 0, 0, 0, 0⟩, shortTracks := 0, mismatches := 0, refusedParts := 0
            toneClamped := 0, stylusFaults := 0, maxError := 0 }
        crcErrors := 0, lengthErrors := 0, kindErrors := 0, slips := 0, reverses := 0, holdTotal := 0
        maxDeviation := 0 }
    lines := lines, choices := s.choices, pending := s.pending }

/-- The rows that move a dedicated input or a supply. -/
def movesLine : Instr → Bool
  | .estop _ | .feedFault _ | .bankChange _ | .resetNAssert | .resetNRelease | .powerOn
  | .powerOnRelease | .supplyFall => true
  | _ => false

end Sys2Proof.Claims

/-- RESET_N asserted, power-on and a fall of a supply put every block at its full-reset values, whatever the
part was doing. -/
def Sys2Proof.Claims.FullResetClearsEveryBlock : Prop :=
  ∀ s : State,
    exec .resetNAssert s = .next (cleared { s.lines with resetN := false } s) ∧
    exec .powerOn s = .next (cleared { s.lines with powerHeld := true } s) ∧
    exec .supplyFall s = .next (cleared { s.lines with powerHeld := true } s)

/-- The part leaves the held reset when RESET_N is released and the supplies have been in range for 1 ms, in
either order; at that event the bank is read from the lines and FULL_RESET is set. -/
def Sys2Proof.Claims.HeldResetEndsAtItsRelease : Prop :=
  ∀ s : State,
    (s.lines.resetN = false → s.lines.powerHeld = true →
      exec .resetNRelease s = .next { s with lines := { s.lines with resetN := true } } ∧
      exec .powerOnRelease s = .next { s with lines := { s.lines with powerHeld := false } }) ∧
    (s.lines.resetN = false → s.lines.powerHeld = false →
      exec .resetNRelease s =
        .next { s with
          lines := { s.lines with resetN := true }, dbu := { s.dbu with bank := s.lines.ps }
          rpt := { s.rpt with fullReset := true } }) ∧
    (s.lines.resetN = true → s.lines.powerHeld = true →
      exec .powerOnRelease s =
        .next { s with
          lines := { s.lines with powerHeld := false }, dbu := { s.dbu with bank := s.lines.ps }
          rpt := { s.rpt with fullReset := true } })

/-- While the part is held in full reset every feed byte, command, encoder event, monitor strobe and expiry is
ignored, and a dedicated input changes nothing but its own level. -/
def Sys2Proof.Claims.HeldResetIgnoresEvents : Prop :=
  ∀ s : State, s.inReset = true →
    (∀ c : Instr, movesLine c = false → exec c s = .next s) ∧
    (∀ level, exec (.estop level) s = .next { s with lines := { s.lines with estopN := level } }) ∧
    (∀ level, exec (.feedFault level) s = .next { s with lines := { s.lines with feedFault := level } }) ∧
    (∀ bank, exec (.bankChange bank) s = .next { s with lines := { s.lines with ps := bank } })

/-- RESET: every block performs its soft reset, nothing is posted, and then the reply is placed; one with parameters is
refused with LENGTH and resets nothing. -/
def Obligations.SoftResetKeepsTablesSettingsAndWear : Prop :=
  ∀ (tag : Half) (s : State), s.inReset = false →
    (∀ params, params ≠ [] → exec (.reset tag params) s = .next (answer 0x03 tag .length [0, 0] s)) ∧
    exec (.reset tag []) s =
      .next (answer 0x03 tag .ok []
        { s with
          store :=
            { slots := s.store.slots.map (fun v =>
                match v.state with
                | .empty => v
                | .committing => ⟨.empty, [], 0, 0⟩
                | .valid => v
                | .bound => { v with state := .valid })
              owner := none, image := [], commit := none, cursor := none }
          ctu := { s.ctu with holdCount := 0, feedEn := false }
          job := { record := s.job.record, state := .setup, result := none, abortCause := none }
          channels := s.channels.mapIdx (fun _ c =>
            { c with state := .off, engage := false, accumulator := 0, cellIndex := 0 })
          queues := s.queues.mapIdx (fun _ q => { q with records := [] })
          monitors := s.monitors.mapIdx (fun _ m =>
            { m with history := [], liftRun := 0, deviationRun := 0, missingRun := 0 })
          cals := PerHead.const
            { phase := .none, lowWidth := none, highWidth := none, timer := none, proposal := none }
          dbu := { bank := s.dbu.bank, demand := PerHead.const 0, candidates := PerHead.const false }
          fli := { s.fli with notices := [] } })

/-- The state right after a full reset is safe in every way the invariants name. -/
def Obligations.ResetStateIsSafe : Prop :=
  State.reset.EngageExact ∧ State.reset.fli.Orderly ∧ State.reset.fli.receive.Counted ∧
    State.reset.HistoriesOrdered ∧ State.reset.store.Wf ∧ State.reset.TablesChecked ∧
    State.reset.QueuesShaped ∧ State.reset.JobCoherent ∧ State.reset.BindingExact ∧
    State.reset.WithinBudget ∧ State.reset.HeldClear ∧ State.reset.pending = []

/-! ## The feed link (R171 to R176) -/

/-- The receive side moves by the table of R171 at each feed byte. A length above 4096 and a frame whose CRC
differs are link errors (R173, R174, R176); a good frame is taken as the row of its kind. -/
def Sys2Proof.Claims.FeedByteMovesReceiver : Prop :=
  ∀ (b : Byte) (s : State), s.inReset = false →
    (s.fli.receive = .hunt →
      exec (.feedByte b) s =
        .next (if b = 0xb5 then { s with fli := { s.fli with receive := .sync } } else s)) ∧
    (s.fli.receive = .sync →
      exec (.feedByte b) s =
        .next (if b = 0x4e then { s with fli := { s.fli with receive := .header [] } }
          else if b = 0xb5 then s else { s with fli := { s.fli with receive := .hunt } })) ∧
    (∀ bytes, s.fli.receive = .header bytes → bytes.length < 3 →
      exec (.feedByte b) s = .next { s with fli := { s.fli with receive := .header (bytes ++ [b]) } }) ∧
    (∀ kind head hi, s.fli.receive = .header [kind, head, hi] →
      exec (.feedByte b) s =
        .next
          (if 4096 < hi.toNat * 256 + b.toNat then
            { s with
              fli := { s.fli with receive := .hunt }
              rpt := { s.rpt with lengthErrors := s.rpt.lengthErrors + 1, linkError := true } }
          else if hi.toNat * 256 + b.toNat = 0 then
            { s with fli := { s.fli with receive := .check kind head [] none } }
          else
            { s with fli := { s.fli with
                receive := .payload kind head (hi.toNat * 256 + b.toNat) [] } })) ∧
    (∀ kind head length bytes, s.fli.receive = .payload kind head length bytes → bytes.length < length →
      exec (.feedByte b) s =
        .next
          (if bytes.length + 1 = length then
            { s with fli := { s.fli with receive := .check kind head (bytes ++ [b]) none } }
          else { s with fli := { s.fli with receive := .payload kind head length (bytes ++ [b]) } })) ∧
    (∀ kind head bytes, s.fli.receive = .check kind head bytes none →
      exec (.feedByte b) s =
        .next { s with fli := { s.fli with receive := .check kind head bytes (some b) } }) ∧
    (∀ kind head bytes hi, s.fli.receive = .check kind head bytes (some hi) →
      exec (.feedByte b) s =
        if crc (covered kind head bytes) = hi ++ b then
          exec (frameRow kind head bytes) { s with fli := { s.fli with receive := .hunt } }
        else
          .next { s with
            fli := { s.fli with receive := .hunt }
            rpt := { s.rpt with crcErrors := s.rpt.crcErrors + 1, linkError := true } })

/-- The row of every command code, with a tag and parameters (R182). -/
def Sys2Proof.Claims.codeRows (tag : Half) (params : List Byte) : List (Byte × Instr) :=
  [(0x01, .identify tag params), (0x02, .statusSnapshot tag params), (0x03, .reset tag params),
   (0x10, .timingSet tag params), (0x20, .tableDiscard tag params), (0x21, .tableCommit tag params),
   (0x22, .tableErase tag params), (0x23, .tableReadStart tag params), (0x24, .tableReadContinue tag params),
   (0x30, .jobDefine tag params), (0x31, .arm tag params), (0x32, .disarm tag params),
   (0x33, .start tag params), (0x34, .stop tag params), (0x35, .abort tag params),
   (0x36, .release tag params), (0x37, .headPark tag params), (0x38, .trackDiscard tag params),
   (0x40, .calibrate tag params), (0x41, .calMeasure tag params), (0x42, .calApply tag params),
   (0x43, .calCancel tag params), (0x44, .stylusWear tag params), (0x50, .noticeMask tag params),
   (0x51, .noticeSkip tag params), (0x52, .countersRead tag params), (0x53, .countersClear tag params)]

/-- A good frame is routed by its kind byte: track parts and table data to their rows, a command to the row of
its code with its tag and parameters, anything else to the row of a link error of class KIND. The row is well
formed when the payload is at most 4096 bytes. -/
def Obligations.GoodFrameIsRowOfItsKind : Prop :=
  ∀ (kind head : Byte) (payload : List Byte),
    (payload.length ≤ 4096 → (frameRow kind head payload).wellFormed = true) ∧
    (kind = 0x11 → frameRow kind head payload = .trackPart head payload) ∧
    (kind = 0x12 → ∀ slot flags rest, payload = slot :: flags :: rest →
      frameRow kind head payload =
        if flags.getLsbD 0 then .tableDataOpen payload else .tableData payload) ∧
    (kind = 0x12 → payload.length < 2 → frameRow kind head payload = .tableData payload) ∧
    (kind = 0x13 → ∀ (c : CommandName) t1 t0 params, payload = commandCode c :: t1 :: t0 :: params →
      frameRow kind head payload = commandOf (commandCode c) (t1 ++ t0) params) ∧
    (kind = 0x13 → ∀ code t1 t0 params, payload = code :: t1 :: t0 :: params →
      (∀ row, (code, row) ∈ codeRows (t1 ++ t0) params → frameRow kind head payload = row) ∧
      (code ∉ (codeRows (t1 ++ t0) params).map Prod.fst →
        frameRow kind head payload = .unknownCommand code (t1 ++ t0))) ∧
    (kind = 0x13 → payload.length < 3 → frameRow kind head payload = .shortCommandPayload payload) ∧
    (kind ≠ 0x11 → kind ≠ 0x12 → kind ≠ 0x13 → frameRow kind head payload = .kindError kind)

/-- A frame sent is the frame taken: from HUNT, the bytes of any frame of at most 4096 payload bytes, preamble to
CRC, act exactly as the row of that frame, with every byte of it as it was sent. -/
def Obligations.FrameSentIsFrameTaken : Prop :=
  ∀ (kind head : Byte) (payload : List Byte) (s : State),
    s.inReset = false → s.fli.receive = .hunt → payload.length ≤ 4096 →
      feed ([0xb5, 0x4e, kind, head] ++ be16 payload.length ++ payload ++
        be16 (crc (covered kind head payload)).toNat) s = exec (frameRow kind head payload) s

/-- More than 50 us without a byte: in HEADER, PAYLOAD and CHECK a length error, in SYNC a return to HUNT without
a count, in HUNT nothing. -/
def Sys2Proof.Claims.ByteIntervalAbandonsFrame : Prop :=
  ∀ s : State, s.inReset = false →
    (s.fli.receive = .hunt → exec .byteIntervalTimeout s = .next s.arbitrate) ∧
    (s.fli.receive = .sync →
      exec .byteIntervalTimeout s =
        .next (State.arbitrate { s with fli := { s.fli with receive := .hunt } })) ∧
    (s.fli.receive ≠ .hunt → s.fli.receive ≠ .sync →
      exec .byteIntervalTimeout s =
        .next (State.arbitrate { s with
          fli := { s.fli with receive := .hunt }
          rpt := { s.rpt with lengthErrors := s.rpt.lengthErrors + 1, linkError := true } }))

/-- A good frame of an unknown kind steps the KIND counter and sets LINK_ERROR; no reply and no notice is
queued. -/
def Sys2Proof.Claims.KindErrorIsCountedOnly : Prop :=
  ∀ (kind : Byte) (s : State), s.inReset = false →
    exec (.kindError kind) s =
      .next (State.arbitrate { s with
        rpt := { s.rpt with kindErrors := s.rpt.kindErrors + 1, linkError := true } })

/-- The CRC of a message followed by its own two CRC bytes, high byte first, is zero, and the nine bytes 31h to
39h give 29B1h. -/
def Obligations.CrcOfMessageWithItsCrcIsZero : Prop :=
  crc [0x31, 0x32, 0x33, 0x34, 0x35, 0x36, 0x37, 0x38, 0x39] = 0x29b1 ∧
    ∀ bytes : List Byte, crc (bytes ++ be16 (crc bytes).toNat) = 0

/-- The receive side keeps the counts of R171 at every step: a header under way has fewer than four bytes and a
payload under way fewer than its length, which is at most 4096. -/
def Sys2Proof.Claims.ReceiveSideCountsArePreserved : Prop :=
  ∀ s t : State, s.fli.receive.Counted → step s = .next t → t.fli.receive.Counted

/-! ## Commands (R180 to R184) -/

namespace Sys2Proof.Claims

/-- The code, the parameter length and the availability in each job state of a command. -/
def commandRow (c : CommandName) : Byte × Nat × List Bool :=
  (commandCode c, commandLength c,
    [JobState.setup, .armed, .running, .stopping, .ended, .aborted].map (commandAvailable c))

/-- Available in every job state. -/
def always : List Bool := [true, true, true, true, true, true]

end Sys2Proof.Claims

/-- The codes, parameter lengths and availability of the twenty-seven commands are those of R182's table and of
the availability table of section 9.6. -/
def Sys2Proof.Claims.CommandRowsAreTheManuals : Prop :=
  commandRow .identify = (0x01, 0, always) ∧ commandRow .statusSnapshot = (0x02, 0, always) ∧
  commandRow .reset = (0x03, 0, always) ∧
  commandRow .timingSet = (0x10, 14, [true, false, false, false, false, false]) ∧
  commandRow .tableDiscard = (0x20, 0, always) ∧ commandRow .tableCommit = (0x21, 1, always) ∧
  commandRow .tableErase = (0x22, 1, always) ∧ commandRow .tableReadStart = (0x23, 3, always) ∧
  commandRow .tableReadContinue = (0x24, 0, always) ∧
  commandRow .jobDefine = (0x30, 25, [true, false, false, false, false, false]) ∧
  commandRow .arm = (0x31, 0, [true, false, false, false, false, false]) ∧
  commandRow .disarm = (0x32, 0, [false, true, false, false, false, false]) ∧
  commandRow .start = (0x33, 0, [false, true, false, false, false, false]) ∧
  commandRow .stop = (0x34, 0, [false, false, true, false, false, false]) ∧
  commandRow .abort = (0x35, 0, [false, true, true, true, false, false]) ∧
  commandRow .release = (0x36, 0, [false, false, false, false, true, true]) ∧
  commandRow .headPark = (0x37, 1, [false, true, true, true, false, false]) ∧
  commandRow .trackDiscard = (0x38, 1, always) ∧
  commandRow .calibrate = (0x40, 15, [true, false, false, false, false, false]) ∧
  commandRow .calMeasure = (0x41, 6, always) ∧ commandRow .calApply = (0x42, 1, always) ∧
  commandRow .calCancel = (0x43, 1, always) ∧ commandRow .stylusWear = (0x44, 3, always) ∧
  commandRow .noticeMask = (0x50, 4, always) ∧ commandRow .noticeSkip = (0x51, 2, always) ∧
  commandRow .countersRead = (0x52, 1, always) ∧ commandRow .countersClear = (0x53, 1, always)

/-- A command whose parameters have the wrong length is answered LENGTH with the length it requires, and changes
nothing else. -/
def Sys2Proof.Claims.WrongLengthIsAnsweredWithRequiredLength : Prop :=
  ∀ (c : CommandName) (tag : Half) (params : List Byte) (s : State), s.inReset = false →
    params.length ≠ commandLength c →
      exec (commandOf (commandCode c) tag params) s =
        .next (answer (commandCode c) tag .length (be16 (commandLength c)) s)

/-- A command of the right length that is not available in the job state is answered STATE with the job state, and
for ARM with step 1 besides (R184), and changes nothing else. -/
def Sys2Proof.Claims.UnavailableCommandIsAnsweredState : Prop :=
  ∀ (c : CommandName) (tag : Half) (params : List Byte) (s : State), s.inReset = false →
    params.length = commandLength c → commandAvailable c s.job.state = false →
      exec (commandOf (commandCode c) tag params) s =
        .next (answer (commandCode c) tag .state
          (be8 (jobStateCode s.job.state) ++ (if c = .arm then [1] else [])) s)

/-- A code no command carries is answered UNKNOWN, and a payload shorter than three bytes LENGTH with the first
byte, or 00h, as its code and the tag 0; neither reply carries data, and nothing else changes. -/
def Sys2Proof.Claims.UnknownAndShortCommandsAreAnswered : Prop :=
  ∀ s : State, s.inReset = false →
    (∀ code tag, exec (.unknownCommand code tag) s = .next (answer code tag .unknown [] s)) ∧
    exec (.shortCommandPayload []) s = .next (answer 0x00 0 .length [] s) ∧
    (∀ code rest, exec (.shortCommandPayload (code :: rest)) s = .next (answer code 0 .length [] s))

/-- IDENTIFY changes no state of the part besides its reply, which carries the fifteen bytes of R190. -/
def Sys2Proof.Claims.IdentifyChangesNothing : Prop :=
  ∀ (tag : Half) (s : State), s.inReset = false →
    exec (.identify tag []) s =
      .next (answer 0x01 tag .ok
        [0x3a, 0x17, 0x04, 0x10, 0x02, 4, 16, 8, 8, 4, 1, 0x40, 0x00, 0x07, 0xf8] s)

/-! ## The return side (R186 to R189) -/

/-- A reply is appended while fewer than eight wait, else discarded with REPLY_LOST; the end of a frame frees the
line, and the arbiter takes the oldest reply, else the oldest notice. -/
def Obligations.RepliesGoBeforeNotices : Prop :=
  ∀ s : State,
    (∀ f, s.fli.replies.length < 8 →
      s.queueReply f = { s with fli := { s.fli with replies := s.fli.replies ++ [f] } }) ∧
    (∀ f, 8 ≤ s.fli.replies.length →
      s.queueReply f = { s with rpt := { s.rpt with replyLost := true } }) ∧
    (∀ f, s.fli.line = some f → s.arbitrate = s) ∧
    (s.inReset = false →
      (∀ r rest, s.fli.replies = r :: rest →
        exec .returnFrameSent s = .next { s with fli := { s.fli with line := some r, replies := rest } }) ∧
      (∀ n rest, s.fli.replies = [] → s.fli.notices = n :: rest →
        exec .returnFrameSent s = .next { s with fli := { s.fli with line := some n, notices := rest } }) ∧
      (s.fli.replies = [] → s.fli.notices = [] →
        exec .returnFrameSent s = .next { s with fli := { s.fli with line := none } }))

/-- Never more than eight replies and thirty-two notices wait, and none waits while the line is free. -/
def Sys2Proof.Claims.ReturnQueuesStayOrderly : Prop :=
  ∀ s t : State, s.fli.Orderly → step s = .next t → t.fli.Orderly

/-! ## Table Store (R1 to R25) -/

namespace Sys2Proof.Claims

/-- A table-data frame answered: code 12h, tag 0, the slot and offset of the frame, the fill of the staging image
and the number of entries clamped (R11). -/
def tableAnswer (status : Status) (slot offset clamped : Nat) (s : State) : State :=
  answer 0x12 0 status (be8 slot ++ be16 offset ++ be16 s.store.image.length ++ be16 clamped) s

/-- The payload of a table-data frame (R177). -/
def tablePayload (slot : Nat) (flags : Byte) (offset : Nat) (entries : List Entry) : List Byte :=
  be8 slot ++ [flags] ++ be16 offset ++ entries.flatMap (fun e => be32 e.toNat)

/-- A value clamped into -200 to 200 (R10). -/
def clamped (e : Entry) : Entry := BitVec.ofInt 32 (max (-200) (min 200 e.toInt))

/-- A ring with the entries of a frame written around it from an offset, each clamped: entry i stands at
(offset + i) modulo 256 (R10). -/
def ringAfter (ring : List Entry) (offset : Nat) (entries : List Entry) : List Entry :=
  List.ofFn (fun j : Fin 256 =>
    match entries[(j.val + 256 - offset % 256) % 256]? with
    | some e => clamped e
    | none => ring.getD j.val 0)

/-- The entries of a frame that are clamped. -/
def clampedCount (entries : List Entry) : Nat :=
  entries.countP (fun e => decide (e.toInt < -200 ∨ 200 < e.toInt))

/-- A write to the staging image of a kind (R9, R10): a runout write is always accepted; any other continues the
image without a gap and within the kind's size. -/
def written (slot offset : Nat) (entries image : List Entry) (s : State) : State :=
  if 24 ≤ slot ∧ slot ≤ 31 then
    tableAnswer (if clampedCount entries = 0 then .ok else .okClamped) slot offset (clampedCount entries)
      { s with store := { s.store with owner := some slot, image := ringAfter image offset entries } }
  else if offset ≠ image.length then tableAnswer .gap slot offset 0 s
  else if kindSize (slotKind slot) < offset + entries.length then tableAnswer .length slot offset 0 s
  else
    tableAnswer .ok slot offset 0
      { s with store := { s.store with owner := some slot, image := image ++ entries } }

end Sys2Proof.Claims

/-- The kind and size of every slot are those of R1's table, and a slot above 36 is refused with BAD_PARAM by every
command that names one, without a change of the store. -/
def Sys2Proof.Claims.SlotNumberFixesKindAndSize : Prop :=
  (∀ slot, slot ≤ 36 →
    (slotKind slot, kindSize (slotKind slot)) =
      if slot ≤ 15 then (.gradation, 33) else if slot ≤ 23 then (.screen, 2)
      else if slot ≤ 31 then (.runout, 256) else if slot ≤ 35 then (.headcal, 16) else (.budget, 8)) ∧
  ∀ (tag : Half) (slot hi lo : Byte) (s : State), s.inReset = false → 36 < slot.toNat →
    exec (.tableCommit tag [slot]) s = .next (answer 0x21 tag .badParam [] s) ∧
    exec (.tableErase tag [slot]) s = .next (answer 0x22 tag .badParam [] s) ∧
    exec (.tableReadStart tag [slot, hi, lo]) s = .next (answer 0x23 tag .badParam [] s)

/-- A table-data frame of the wrong form is answered LENGTH before the store sees it, with slot and offset 0 when it
is too short to hold them; an OPEN flag on it claims nothing. That a payload of 1 to 3 bytes reports slot 0 as well as
offset 0 is the model's reading (log entry 33). -/
def Sys2Proof.Claims.MalformedTableFrameIsAnsweredLength : Prop :=
  ∀ (p : List Byte) (s : State), s.inReset = false →
    (p.length < 4 →
      exec (.tableDataOpen p) s = .next (tableAnswer .length 0 0 0 s) ∧
      exec (.tableData p) s = .next (tableAnswer .length 0 0 0 s)) ∧
    (∀ slot flags hi lo rest, p = slot :: flags :: hi :: lo :: rest →
      rest.length % 4 ≠ 0 ∨ rest.length = 0 ∨ 1024 < rest.length →
        exec (.tableDataOpen p) s =
          .next (tableAnswer .length slot.toNat (hi.toNat * 256 + lo.toNat) 0 s) ∧
        exec (.tableData p) s =
          .next (tableAnswer .length slot.toNat (hi.toNat * 256 + lo.toNat) 0 s))

/-- An OPEN frame: the checks of R8 in order, then the image of its kind initialised and the frame's entries
written into it. -/
def Sys2Proof.Claims.OpenFrameClaimsStaging : Prop :=
  ∀ (slot offset : Nat) (flags : Byte) (entries : List Entry) (s : State), s.inReset = false →
    slot < 256 → offset < 65536 → 1 ≤ entries.length → entries.length ≤ 256 →
    (24 ≤ slot → slot ≤ 31 → (s.store.slot slot).state = .valid → (s.store.slot slot).entries.length = 256) →
      exec (.tableDataOpen (tablePayload slot flags offset entries)) s =
        .next
          (if 36 < slot then tableAnswer .badParam slot offset 0 s
          else if 255 < offset then tableAnswer .badParam slot offset 0 s
          else if s.store.commit ≠ none then tableAnswer .storeBusy slot offset 0 s
          else if s.store.owner ≠ none ∧ s.store.owner ≠ some slot then tableAnswer .stagingBusy slot offset 0 s
          else if (s.store.slot slot).state = .bound then tableAnswer .bound slot offset 0 s
          else
            written slot offset entries
              (if 24 ≤ slot ∧ slot ≤ 31 then
                (if (s.store.slot slot).state = .valid then (s.store.slot slot).entries
                else List.replicate 256 0)
              else []) s)

/-- A frame without OPEN: the checks of R9 in order, then its entries continue the image, or are written around a
runout ring. -/
def Sys2Proof.Claims.LaterFrameContinuesImage : Prop :=
  ∀ (slot offset : Nat) (flags : Byte) (entries : List Entry) (s : State), s.inReset = false →
    slot < 256 → offset < 65536 → 1 ≤ entries.length → entries.length ≤ 256 →
    (24 ≤ slot → slot ≤ 31 → s.store.owner = some slot → s.store.image.length = 256) →
      exec (.tableData (tablePayload slot flags offset entries)) s =
        .next
          (if 36 < slot then tableAnswer .badParam slot offset 0 s
          else if 255 < offset then tableAnswer .badParam slot offset 0 s
          else if s.store.owner ≠ some slot then tableAnswer .noStaging slot offset 0 s
          else if s.store.commit = some slot then tableAnswer .busy slot offset 0 s
          else written slot offset entries s.store.image s)

/-- The checksum of R6: sum1 is the sum of the halves and sum2 the sum of sum1's values, modulo 65535, over the
high and then the low half of every entry in order. -/
def Obligations.ChecksumIsPairOfRunningSums : Prop :=
  (∀ (entries : List Entry) (e : Entry),
    checksum [] = (0, 0) ∧
    checksum (entries ++ [e]) =
      let a := ((checksum entries).1 + e.toNat / 65536) % 65535
      let b := ((checksum entries).2 + a) % 65535
      let c := (a + e.toNat % 65536) % 65535
      (c, (b + c) % 65535)) ∧
  ∀ entries : List Entry, (checksum entries).1 < 65535 ∧ (checksum entries).2 < 65535 ∧
    (checksum entries).1 = (entries.map (fun e => e.toNat / 65536 + e.toNat % 65536)).sum % 65535

namespace Sys2Proof.Claims

/-- The tone of breakpoint j of a curve (R2). -/
def toneOf (curve : List Entry) (j : Nat) : Nat := highHalf (entryAt curve (j + 1))

/-- The depth of breakpoint j of a curve (R2). -/
def depthOf (curve : List Entry) (j : Nat) : Nat := lowHalf (entryAt curve (j + 1))

/-- Breakpoint j of n breaks a condition of R13. -/
def breaks (image : List Entry) (n j : Nat) : Prop :=
  1000 < toneOf image j ∨ (j = 0 ∧ toneOf image j ≠ 0) ∨ (0 < j ∧ toneOf image j ≤ toneOf image (j - 1)) ∨
    (j + 1 = n ∧ toneOf image j ≠ 1000) ∨ 1000 < depthOf image j ∨
    (0 < j ∧ depthOf image j < depthOf image (j - 1))

/-- The ranges of the entries of a kind of fixed fill (R3, R14). -/
def rangesOf (image : List Entry) : SlotKind → List (Int × Int)
  | .screen => [(64, 65535), (0, 1)]
  | .headcal =>
    [(256, 16383), (-4096, 4095), (0, 1000), (entryInt image 2, 1000), (0, 4095), (1, 4095), (0, 8191), (0, 1023),
     (0, 1023), (0, 1023), (1, 255), (1, 255), (0, 2000), (0, 2000), (0, 255), (0, 200)]
  | .budget => List.replicate 8 (0, 65535)
  | .gradation => []
  | .runout => []

/-- Entry i of an image lies outside its range. -/
def outside (image : List Entry) (kind : SlotKind) (i : Nat) : Prop :=
  ∃ r, (rangesOf image kind)[i]? = some r ∧ (entryInt image i < r.1 ∨ r.2 < entryInt image i)

end Sys2Proof.Claims

/-- The index reported with INVALID: of a GRADATION image 0 for a missing or bad breakpoint count, the smaller of the
fill and n + 1 for a wrong fill, and otherwise that of the first breakpoint that breaks a condition; of a SCREEN,
HEADCAL or BUDGET image the fill when it is not the kind's, which is checked first (log entry 31), and otherwise that
of the first entry outside its range. -/
def Sys2Proof.Claims.InvalidNamesFirstOffendingEntry : Prop :=
  (∀ image : List Entry,
    (image = [] ∨ entryInt image 0 < 2 ∨ 32 < entryInt image 0 → imageFault .gradation image = some 0) ∧
    ∀ n : Nat, 2 ≤ n → n ≤ 32 → image ≠ [] → entryInt image 0 = n →
      (image.length ≠ n + 1 → imageFault .gradation image = some (min image.length (n + 1))) ∧
      (image.length = n + 1 → ∀ j, j < n → breaks image n j → (∀ m, m < j → ¬ breaks image n m) →
        imageFault .gradation image = some (j + 1))) ∧
  ∀ (kind : SlotKind) (image : List Entry), kind = .screen ∨ kind = .headcal ∨ kind = .budget →
    (image.length ≠ (rangesOf image kind).length → imageFault kind image = some image.length) ∧
    (image.length = (rangesOf image kind).length →
      ∀ i, outside image kind i → (∀ m, m < i → ¬ outside image kind m) → imageFault kind image = some i)

/-- A GRADATION image is valid exactly when entry 0 holds its breakpoint count n in 2 to 32, the fill is n + 1, the
tones rise strictly from 0 to 1000 and the depths do not fall and stay within 1000; a SCREEN, HEADCAL or BUDGET
image exactly when its fill is the kind's and every entry lies in its range; a RUNOUT image always. -/
def Sys2Proof.Claims.ImageIsValidByConditionsOfItsKind : Prop :=
  (∀ image : List Entry,
    imageFault .gradation image = none ↔
      ∃ n : Nat, 2 ≤ n ∧ n ≤ 32 ∧ image.length = n + 1 ∧ (entryAt image 0).toInt = n ∧
        highHalf (entryAt image 1) = 0 ∧ highHalf (entryAt image n) = 1000 ∧
        lowHalf (entryAt image n) ≤ 1000 ∧
        ∀ j, 1 ≤ j → j < n →
          highHalf (entryAt image j) < highHalf (entryAt image (j + 1)) ∧
          lowHalf (entryAt image j) ≤ lowHalf (entryAt image (j + 1))) ∧
  (∀ image : List Entry,
    imageFault .screen image = none ↔
      image.length = 2 ∧ 64 ≤ entryInt image 0 ∧ entryInt image 0 ≤ 65535 ∧
        (entryInt image 1 = 0 ∨ entryInt image 1 = 1)) ∧
  (∀ image : List Entry,
    imageFault .headcal image = none ↔
      image.length = 16 ∧ 256 ≤ entryInt image 0 ∧ entryInt image 0 ≤ 16383 ∧
        -4096 ≤ entryInt image 1 ∧ entryInt image 1 ≤ 4095 ∧
        0 ≤ entryInt image 2 ∧ entryInt image 2 ≤ entryInt image 3 ∧ entryInt image 3 ≤ 1000 ∧
        0 ≤ entryInt image 4 ∧ entryInt image 4 ≤ 4095 ∧ 1 ≤ entryInt image 5 ∧ entryInt image 5 ≤ 4095 ∧
        0 ≤ entryInt image 6 ∧ entryInt image 6 ≤ 8191 ∧
        (∀ i, 7 ≤ i → i ≤ 9 → 0 ≤ entryInt image i ∧ entryInt image i ≤ 1023) ∧
        (∀ i, 10 ≤ i → i ≤ 11 → 1 ≤ entryInt image i ∧ entryInt image i ≤ 255) ∧
        (∀ i, 12 ≤ i → i ≤ 13 → 0 ≤ entryInt image i ∧ entryInt image i ≤ 2000) ∧
        0 ≤ entryInt image 14 ∧ entryInt image 14 ≤ 255 ∧ 0 ≤ entryInt image 15 ∧ entryInt image 15 ≤ 200) ∧
  (∀ image : List Entry,
    imageFault .budget image = none ↔
      image.length = 8 ∧ ∀ i, i < 8 → 0 ≤ entryInt image i ∧ entryInt image i ≤ 65535) ∧
  ∀ image : List Entry, imageFault .runout image = none

/-- TABLE COMMIT: the checks of R12 in order; a valid image makes the slot COMMITTING with its former contents
given up, the commit in flight this slot, and a cursor on it cleared. -/
def Sys2Proof.Claims.CommitStartsCopyOfValidImage : Prop :=
  ∀ (tag : Half) (slot : Byte) (s : State), s.inReset = false →
    exec (.tableCommit tag [slot]) s =
      .next
        (if 36 < slot.toNat then answer 0x21 tag .badParam [] s
        else if s.store.commit ≠ none then answer 0x21 tag .busy [] s
        else if (s.store.slot slot.toNat).state = .bound then answer 0x21 tag .bound [] s
        else if s.store.owner ≠ some slot.toNat then answer 0x21 tag .noStaging [] s
        else
          match imageFault (slotKind slot.toNat) s.store.image with
          | some i => answer 0x21 tag .invalid (be16 i) s
          | none =>
            answer 0x21 tag .started []
              { s with store :=
                { s.store with
                  slots := s.store.slots.setIfInBounds slot.toNat ⟨.committing, [], 0, 0⟩
                  commit := some slot.toNat
                  cursor := s.store.cursor.filter (fun c => c.slot != slot.toNat) } })

/-- At the completion of a commit the slot receives the staged entries, is VALID with the checksum of R6, the
staging area is IDLE, no commit is in flight and COMMIT_DONE is posted with both sums. -/
def Sys2Proof.Claims.CommitCompletionFillsSlot : Prop :=
  ∀ (slot : Nat) (s : State), s.inReset = false → s.store.commit = some slot →
    exec .commitCompletion s =
      .next (State.arbitrate (State.post
        (.commitDone slot (checksum s.store.image).1 (checksum s.store.image).2)
        { s with store :=
          { slots := s.store.slots.setIfInBounds slot
              ⟨.valid, s.store.image, (checksum s.store.image).1, (checksum s.store.image).2⟩
            owner := none, image := [], commit := none, cursor := s.store.cursor } }))

/-- TABLE ERASE and TABLE DISCARD: their checks in order, and their effects. -/
def Sys2Proof.Claims.EraseAndDiscardFreeTables : Prop :=
  ∀ (tag : Half) (slot : Byte) (s : State), s.inReset = false →
    (36 < slot.toNat → exec (.tableErase tag [slot]) s = .next (answer 0x22 tag .badParam [] s)) ∧
    (slot.toNat ≤ 36 →
      exec (.tableErase tag [slot]) s =
        .next
          (match (s.store.slot slot.toNat).state with
          | .committing => answer 0x22 tag .busy [] s
          | .bound => answer 0x22 tag .bound [] s
          | .valid =>
            answer 0x22 tag .ok []
              { s with store :=
                { s.store with
                  slots := s.store.slots.setIfInBounds slot.toNat ⟨.empty, [], 0, 0⟩
                  cursor := s.store.cursor.filter (fun c => c.slot != slot.toNat) } }
          | .empty => answer 0x22 tag .ok [] s)) ∧
    exec (.tableDiscard tag []) s =
      .next
        (if s.store.commit ≠ none then answer 0x20 tag .busy [] s
        else answer 0x20 tag .ok [] { s with store := { s.store with owner := none, image := [] } })

namespace Sys2Proof.Claims

/-- The entries a read-back gives: those from an offset on, at most 64 (R19). -/
def givenFrom (v : Slot) (offset : Nat) : List Entry := (v.entries.drop offset).take 64

/-- The bytes of the given entries, and the END mark: the slot's last entry is given or has been (R19, R20). -/
def givenBytes (v : Slot) (offset : Nat) : List Byte :=
  (givenFrom v offset).flatMap (fun e => be32 e.toNat) ++
    [if v.entries.length ≤ offset + 64 then 1 else 0]

end Sys2Proof.Claims

/-- TABLE READ START and TABLE READ CONTINUE: their checks in order, the entries they give, and the cursor they
leave. Their END byte after the entries is the model's choice (log entry 27). -/
def Obligations.ReadBackGivesSlotInBlocks : Prop :=
  ∀ (tag : Half) (slot hi lo : Byte) (s : State), s.inReset = false → slot.toNat ≤ 36 →
    (let v := s.store.slot slot.toNat
     let offset := hi.toNat * 256 + lo.toNat
     exec (.tableReadStart tag [slot, hi, lo]) s =
      .next
        (if v.state = .empty then answer 0x23 tag .empty [] s
        else if v.state = .committing then answer 0x23 tag .busy [] s
        else if v.entries.length ≤ offset then answer 0x23 tag .badParam [] s
        else
          answer 0x23 tag .ok
            ([if v.state = .valid then 2 else 3] ++ be16 v.entries.length ++ be16 v.sum1 ++ be16 v.sum2 ++
              [hi, lo] ++ givenBytes v offset)
            { s with store := { s.store with
                cursor := some ⟨slot.toNat, offset + (givenFrom v offset).length⟩ } })) ∧
    (s.store.cursor = none → exec (.tableReadContinue tag []) s = .next (answer 0x24 tag .noCursor [] s)) ∧
    (∀ c, s.store.cursor = some c →
      exec (.tableReadContinue tag []) s =
        .next (answer 0x24 tag .ok
          (be8 c.slot ++ be16 c.offset ++ givenBytes (s.store.slot c.slot) c.offset)
          { s with store := { s.store with
              cursor := some ⟨c.slot, c.offset + (givenFrom (s.store.slot c.slot) c.offset).length⟩ } }))

/-- CAL APPLY: the checks in order, and the proposed gain and base written into entries 0 and 1 of the head's
VALID slot, with its checksum recomputed, a cursor on it cleared and the proposal consumed. -/
def Obligations.CalApplyWritesProposal : Prop :=
  ∀ (tag : Half) (head : Byte) (s : State), s.inReset = false →
    (3 < head.toNat → exec (.calApply tag [head]) s = .next (answer 0x42 tag .badParam [] s)) ∧
    ∀ h : Head, head.toNat = h.val →
      exec (.calApply tag [head]) s =
        .next
          (match (s.cals.get h).proposal with
          | none => answer 0x42 tag .state [] s
          | some p =>
            match (s.store.slot (32 + h.val)).state with
            | .empty => answer 0x42 tag .empty [] s
            | .committing => answer 0x42 tag .busy [] s
            | .bound => answer 0x42 tag .bound [] s
            | .valid =>
              let entries := ((s.store.slot (32 + h.val)).entries.set 0 (BitVec.ofNat 32 p.gain)).set 1
                (BitVec.ofInt 32 p.base)
              let sums := checksum entries
              answer 0x42 tag .ok (be16 p.gain ++ beInt16 p.base ++ be16 sums.1 ++ be16 sums.2)
                { s with
                  store := { s.store with
                    slots := s.store.slots.setIfInBounds (32 + h.val) ⟨.valid, entries, sums.1, sums.2⟩
                    cursor := s.store.cursor.filter (fun c => c.slot != 32 + h.val) }
                  cals := s.cals.set h { s.cals.get h with proposal := none } })

/-- The Table Store stays coherent at every step: the commit in flight is the one COMMITTING slot and owns the
staging area, an idle area is empty, the cursor stands on readable contents, every readable slot's checksum is that
of R6, and its contents pass the validation of its kind. -/
def Obligations.TableStoreStaysCheckedAndCoherent : Prop :=
  ∀ s t : State, s.store.Wf → s.TablesChecked → step s = .next t → t.store.Wf ∧ t.TablesChecked

/-! ## Cylinder timing (R26 to R46) -/

namespace Sys2Proof.Claims

/-- The parameters of a TIMING SET (R182). -/
def timingBytes (e src slip nominal soft hard stall : Nat) : List Byte :=
  be32 e ++ be8 src ++ be8 slip ++ be32 nominal ++ be8 soft ++ be8 hard ++ be16 stall

/-- The parameter of a TIMING SET at a position is out of range (R27). -/
def timingBad (e src nominal soft hard stall : Nat) : Nat → Prop
  | 1 => e < 4096 ∨ 262144 < e
  | 2 => 2 < src
  | 4 => nominal < 10000 ∨ 10000000 < nominal
  | 5 => soft < 1 ∨ 100 < soft
  | 6 => hard < soft ∨ 200 < hard
  | 7 => stall < 10 ∨ 10000 < stall
  | _ => False

end Sys2Proof.Claims

/-- TIMING SET in SETUP: HEAD_BUSY while a channel is CALIBRATING, BAD_PARAM with the position of the first
parameter out of range, and otherwise all seven settings replaced with the effects of R28. -/
def Obligations.TimingSetReplacesSettings : Prop :=
  ∀ (tag : Half) (e src slip nominal soft hard stall : Nat) (s : State), s.inReset = false →
    s.job.state = .setup → e < 4294967296 → src < 256 → slip < 256 → nominal < 4294967296 → soft < 256 →
    hard < 256 → stall < 65536 →
      let params := timingBytes e src slip nominal soft hard stall
      let bad := timingBad e src nominal soft hard stall
      ((∃ h : Head, s.channelState h = .calibrating) →
        exec (.timingSet tag params) s = .next (answer 0x10 tag .headBusy [] s)) ∧
      ((∀ h : Head, s.channelState h ≠ .calibrating) →
        (∀ n, bad n → (∀ m, m < n → ¬ bad m) →
          exec (.timingSet tag params) s = .next (answer 0x10 tag .badParam (be8 n) s)) ∧
        ((∀ n, ¬ bad n) →
          exec (.timingSet tag params) s =
            .next (answer 0x10 tag .ok []
              { s with
                ctu := { s.ctu with
                  settings := some
                    { counts := e, source := if src = 0 then .line else if src = 1 then .count else .auto
                      slipTolerance := slip, nominalPeriod := nominal, softWindow := soft
                      hardWindow := hard, stallTimeout := stall }
                  angle := 0, aligned := false, periodValid := false, reference := none, stallRunning := true
                  resolved := if src = 0 then some .line else if src = 1 then some .count else none
                  autoCount := if src = 2 then 0 else s.ctu.autoCount }
                rpt := { s.rpt with maxDeviation := 0 } })))

/-- A forward count advances the angle modulo E and is handed to the channels with it; under COUNT the count that
wraps the angle is the boundary and no count, and under an unresolved AUTO the 2E-th count resolves the source to
COUNT and is the first boundary. Before the first TIMING SET it is ignored. That the AUTO count stays as it is once the
source is resolved is the model's reading (log entry 17). -/
def Sys2Proof.Claims.ForwardCountActsByResolvedSource : Prop :=
  ∀ (time : Nat) (s : State), s.inReset = false →
    (s.ctu.settings = none → exec (.forwardCount time) s = .next s.arbitrate) ∧
    ∀ t, s.ctu.settings = some t →
      let angle := (s.ctu.angle + 1) % t.counts
      let counted := State.countAll angle
      (s.ctu.resolved = some .line →
        exec (.forwardCount time) s =
          .next (counted { s with ctu := { s.ctu with angle := angle } }).arbitrate) ∧
      (s.ctu.resolved = some .count → angle ≠ 0 →
        exec (.forwardCount time) s =
          .next (counted { s with ctu := { s.ctu with angle := angle } }).arbitrate) ∧
      (s.ctu.resolved = some .count → angle = 0 →
        exec (.forwardCount time) s =
          .next (State.boundary t time none { s with ctu := { s.ctu with angle := 0 } }).arbitrate) ∧
      (s.ctu.resolved = none → s.ctu.autoCount + 1 ≠ 2 * t.counts →
        exec (.forwardCount time) s =
          .next (counted { s with ctu := { s.ctu with
            angle := angle, autoCount := s.ctu.autoCount + 1 } }).arbitrate) ∧
      (s.ctu.resolved = none → s.ctu.autoCount + 1 = 2 * t.counts →
        exec (.forwardCount time) s =
          .next (State.boundary t time none { s with ctu := { s.ctu with
            angle := angle, autoCount := 2 * t.counts, resolved := some .count } }).arbitrate)

/-- An index pulse is a boundary under LINE and sets the angle to 0, with the slip folded from the counter when it
was aligned; under an unresolved AUTO it resolves the source to LINE and measures no slip; under COUNT and before
the first TIMING SET it is ignored. -/
def Sys2Proof.Claims.IndexPulseIsBoundaryUnderLine : Prop :=
  ∀ (time : Nat) (s : State), s.inReset = false →
    (s.ctu.settings = none → exec (.indexPulse time) s = .next s.arbitrate) ∧
    ∀ t, s.ctu.settings = some t →
      (s.ctu.resolved = some .count → exec (.indexPulse time) s = .next s.arbitrate) ∧
      (s.ctu.resolved = none →
        exec (.indexPulse time) s =
          .next (State.boundary t time none { s with ctu := { s.ctu with
            angle := 0, resolved := some .line } }).arbitrate) ∧
      (s.ctu.resolved = some .line → s.ctu.aligned = false →
        exec (.indexPulse time) s =
          .next (State.boundary t time none { s with ctu := { s.ctu with angle := 0 } }).arbitrate) ∧
      (s.ctu.resolved = some .line → s.ctu.aligned = true →
        exec (.indexPulse time) s =
          .next (State.boundary t time
            (some (if 2 * s.ctu.angle < t.counts then (s.ctu.angle : Int)
              else (s.ctu.angle : Int) - (t.counts : Int)))
            { s with ctu := { s.ctu with angle := 0 } }).arbitrate)

namespace Sys2Proof.Claims

/-- Step 1 of R35: a nonzero slip steps the slip counter, and one beyond the tolerance posts SLIP (R33). -/
def slipNoted (tolerance : Nat) (slip : Option Int) (s : State) : State :=
  match slip with
  | none => s
  | some x =>
    let counted := if x = 0 then s else { s with rpt := { s.rpt with slips := s.rpt.slips + 1 } }
    if tolerance < x.natAbs then counted.post (.slip x) else counted

/-- The deviation of a period from the nominal one, per mille (R37). -/
def deviationOf (nominal period : Nat) : Nat := ((period : Int) - (nominal : Int)).natAbs * 1000 / nominal

/-- Step 2 of R35: the period is measured from the reference, its deviation is judged, and the stall timer runs
(R36, R37, R38). -/
def periodNoted (t : TimingSettings) (time : Nat) (s : State) : State :=
  match s.ctu.reference with
  | none => { s with ctu := { s.ctu with
      aligned := true, periodValid := false, reference := some time, stallRunning := true } }
  | some r =>
    let p := min 16777215 (time - r)
    let d := deviationOf t.nominalPeriod p
    let measured : State :=
      { s with
        ctu := { s.ctu with
          aligned := true, period := p, periodValid := true, reference := some time, stallRunning := true }
        rpt := { s.rpt with maxDeviation := max s.rpt.maxDeviation d } }
    if t.softWindow < d then measured.post (.speed p d (decide (t.hardWindow < d))) else measured

/-- A boundary after steps 1 to 4 of R35: slip, period and stall timer; every calibration moved by the boundary, or
failed with ENCODER_SLIP when the slip lies beyond the tolerance; every head's retirement (R111, R112) and then, in job
STOPPING, the departure of the heads still active (R113), each in ascending head order. -/
def served (t : TimingSettings) (time : Nat) (slip : Option Int) (s : State) : State :=
  let timed := periodNoted t time (slipNoted t.slipTolerance slip s)
  let calibrations :=
    if slip.any (fun x => decide (t.slipTolerance < x.natAbs)) then timed.failAllCals .encoderSlip
    else allHeads.foldl (fun u h => u.calBoundary h) timed
  allHeads.foldl (fun u h => u.stopHead h) (allHeads.foldl (fun u h => u.retireHead h) calibrations)

end Sys2Proof.Claims

/-- A boundary taken while no channel is CUTTING, no calibration is in progress and the job is neither RUNNING nor
STOPPING serves the timing supervision alone: the slip, then the period and the stall timer. -/
def Sys2Proof.Claims.BoundaryOutsideCuttingServesTiming : Prop :=
  ∀ (t : TimingSettings) (time : Nat) (slip : Option Int) (s : State),
    (∀ h : Head, s.channelState h ≠ .cutting) → (∀ h : Head, s.calibrating h = false) →
    s.job.state ≠ .running → s.job.state ≠ .stopping →
      State.boundary t time slip s = periodNoted t time (slipNoted t.slipTolerance slip s)

/-- At every boundary, whatever else it does: the counter is aligned, the boundary is the reference of the next
period, the stall timer runs, and the period is the time since the former reference, saturated, and valid exactly
when that reference was present; that it is 0 for a time below the reference is the model's choice (log entry 3). -/
def Sys2Proof.Claims.BoundaryMeasuresPeriod : Prop :=
  ∀ (t : TimingSettings) (time : Nat) (slip : Option Int) (s : State),
    let c := (State.boundary t time slip s).ctu
    c.aligned = true ∧ c.reference = some time ∧ c.stallRunning = true ∧ c.settings = s.ctu.settings ∧
      c.angle = s.ctu.angle ∧ c.resolved = s.ctu.resolved ∧ c.autoCount = s.ctu.autoCount ∧
      (s.ctu.reference = none → c.periodValid = false ∧ c.period = s.ctu.period) ∧
      ∀ r, s.ctu.reference = some r → c.periodValid = true ∧ c.period = min 16777215 (time - r)

/-- At a boundary with a slip beyond the tolerance every calibration in progress fails, and a job that is still
RUNNING or STOPPING after the retirements aborts with ENCODER_SLIP in place of a decision; otherwise nothing follows
the retirements. -/
def Sys2Proof.Claims.SlipBeyondToleranceEndsJobAndCalibrations : Prop :=
  ∀ (t : TimingSettings) (time : Nat) (slip : Int) (s : State), t.slipTolerance < slip.natAbs →
    let r := served t time (some slip) s
    let u := State.boundary t time (some slip) s
    (r.job.state = .running ∨ r.job.state = .stopping →
      u = r.abortJob .encoderSlip ∧ u.job.state = .aborted ∧ u.job.abortCause = some .encoderSlip) ∧
    (r.job.state ≠ .running → r.job.state ≠ .stopping → u = r) ∧
    ∀ h : Head, u.calibrating h = false

/-- A reverse count steps the reverse counter and is noticed with the present angle; it aborts a RUNNING or STOPPING
job and fails every calibration in progress, in that order, and no counter of the angle sees it. -/
def Sys2Proof.Claims.ReverseCountIsCountedAndAborts : Prop :=
  ∀ s : State, s.inReset = false →
    (s.ctu.settings = none → exec .reverseCount s = .next s.arbitrate) ∧
    ∀ t, s.ctu.settings = some t →
      let noted := State.post (.encoderReverse (s.rpt.reverses + 1) s.ctu.angle)
        { s with rpt := { s.rpt with reverses := s.rpt.reverses + 1 } }
      exec .reverseCount s =
        .next (State.arbitrate (State.failAllCals .encoderReverse
          (if s.job.state = .running ∨ s.job.state = .stopping then noted.abortJob .encoderReverse else noted)))

/-- The expiry of the running stall timer: STALL is noticed, the period is invalid, the reference discarded and the
timer stopped; a RUNNING or STOPPING job aborts and every calibration in progress fails. -/
def Sys2Proof.Claims.StallStopsTimingAndAborts : Prop :=
  ∀ (t : TimingSettings) (s : State), s.inReset = false → s.ctu.settings = some t → s.ctu.stallRunning = true →
    let noted := State.post (.stall t.stallTimeout)
      { s with ctu := { s.ctu with periodValid := false, reference := none, stallRunning := false } }
    exec .stall s =
      .next (State.arbitrate (State.failAllCals .cylinderStall
        (if s.job.state = .running ∨ s.job.state = .stopping then noted.abortJob .cylinderStall else noted)))

/-- FEED_FAULT: the level of the line is taken, and while it is asserted a RUNNING or STOPPING job aborts with
FEED_FAULT; in any other job state the level is not acted on. -/
def Sys2Proof.Claims.FeedFaultAbortsCuttingJob : Prop :=
  ∀ (level : Bool) (s : State), s.inReset = false →
    let taken : State := { s with lines := { s.lines with feedFault := level } }
    exec (.feedFault level) s =
      .next (State.arbitrate
        (if level = true ∧ (s.job.state = .running ∨ s.job.state = .stopping) then taken.abortJob .feedFault
        else taken))

namespace Sys2Proof.Claims

/-- The queue-head record of a head, which the decision finds COMPLETE. -/
def headTrack (h : Head) (s : State) : Option TrackRecord := (s.queues.get h).ready

end Sys2Proof.Claims

/-- The decision is GO exactly when every active channel has a COMPLETE record at its queue head and the last period
is valid and within the hard window. -/
def Sys2Proof.Claims.GrantNeedsTracksAndSpeed : Prop :=
  ∀ s : State,
    s.granted = true ↔
      (∀ h : Head, s.active h = true → ∃ r rest m,
        (s.queues.get h).records = r :: rest ∧ r.state = .complete m) ∧
      ∃ t, s.ctu.settings = some t ∧ s.ctu.periodValid = true ∧
        deviationOf t.nominalPeriod s.ctu.period ≤ t.hardWindow

/-- A GO within the budget: every active channel becomes CUTTING on its queue-head track with its cell index at 0,
its accumulator at the start of R73 and its track's demand; the record's sums are 0, the head's runs are 0, FEED_EN
is asserted, the hold count is 0, and nothing else changes. -/
def Sys2Proof.Claims.GoWithinBudgetStartsEveryActiveChannel : Prop :=
  ∀ s : State, s.granted = true → s.anyActive = true →
    sumDemands (fun h => s.nextDemand h) (allHeads.filter (fun h => s.active h)) ≤
      s.budgetOf s.dbu.bank →
    s.go =
      { s with
        channels := s.channels.mapIdx (fun h c =>
          match s.active h, headTrack h s with
          | true, some r =>
            { c with
              state := .cutting, engage := true, cellIndex := 0
              accumulator := s.counts / 4 +
                (if s.jobHalf = true ∧ r.number % 2 = 1 then s.counts / 2 else 0) }
          | _, _ => c)
        queues := s.queues.mapIdx (fun h q =>
          match s.active h, q.records with
          | true, r :: rest => { q with records := { r with state := .cutting r.mean 0 0 } :: rest }
          | _, _ => q)
        monitors := s.monitors.mapIdx (fun h m =>
          if s.active h then { m with liftRun := 0, deviationRun := 0, missingRun := 0 } else m)
        dbu := { s.dbu with demand := s.dbu.demand.mapIdx (fun h d =>
          match s.active h, headTrack h s with
          | true, some r =>
            hcIdlePower (s.headcal h) + r.mean * hcPowerSpan (s.headcal h) / 1000
          | _, _ => d) }
        ctu := { s.ctu with feedEn := true, holdCount := 0 } }

/-- A GO above the budget sheds the channels of the shedding order and starts the others: after it every channel
shed is PARKED with BUDGET_SHED, every other active channel is CUTTING, and FEED_EN says whether one is. -/
def Sys2Proof.Claims.GoShedsBeforeItStarts : Prop :=
  ∀ s : State, s.granted = true →
    let sheds := shedOrder (fun h => s.priority h) (fun h => s.nextDemand h) (fun h => s.active h)
      (s.budgetOf s.dbu.bank)
    let t := s.go
    (∀ h : Head, isShed sheds h = true →
      t.channelState h = .parked ∧ (t.channels.get h).lastStop = some .budgetShed ∧
        (t.queues.get h).records = [] ∧ t.dbu.demand.get h = 0) ∧
    (∀ h : Head, s.active h = true → isShed sheds h = false →
      t.channelState h = .cutting ∧ t.dbu.demand.get h = s.nextDemand h) ∧
    (∀ h : Head, s.active h = false → t.channels.get h = s.channels.get h ∧ t.queues.get h = s.queues.get h) ∧
    t.ctu.holdCount = 0 ∧ t.ctu.feedEn = t.anyCutting

/-- A HOLD: FEED_EN is dropped, every PRIMED or CUTTING channel becomes WAITING, HOLD is posted with its reasons and
the heads lacking data, the hold-revolution total is stepped, and the hold count steps below the limit of the job;
at the limit it stays and the job aborts with STARVED, or with SPEED when that is the only reason. -/
def Sys2Proof.Claims.HoldWaitsOrAbortsAtLimit : Prop :=
  ∀ (s : State) (r : JobRecord), s.job.record = some r →
    let lacking : HeadSet := PerHead.ofFn (fun h => s.active h && (headTrack h s).isNone)
    let data := lacking.h0 || lacking.h1 || lacking.h2 || lacking.h3
    let count := if s.ctu.holdCount = r.holdLimit then s.ctu.holdCount else s.ctu.holdCount + 1
    let waiting := State.post (.hold data (!s.withinHard) lacking count)
      { s with
        ctu := { s.ctu with feedEn := false }
        channels := s.channels.mapIdx (fun _ c =>
          if c.state = .primed ∨ c.state = .cutting then { c with state := .waiting, engage := true } else c) }
    let counted : State :=
      { waiting with
        ctu := { waiting.ctu with holdCount := count }
        rpt := { waiting.rpt with holdTotal := min 65535 (s.rpt.holdTotal + 1) } }
    s.hold =
      if s.ctu.holdCount = r.holdLimit then counted.abortJob (if data = true then .starved else .speed)
      else counted

/-- A boundary with no slip beyond the tolerance is the decision made in the state after the calibrations and the
retirements; the decision is made only while the job is RUNNING with an active channel, and is the GO or the HOLD that
this state calls for. -/
def Sys2Proof.Claims.DecisionFollowsRetirements : Prop :=
  (∀ (t : TimingSettings) (time : Nat) (slip : Option Int) (s : State),
    (∀ x, slip = some x → x.natAbs ≤ t.slipTolerance) →
      State.boundary t time slip s = (served t time slip s).decideRevolution) ∧
  ∀ s : State,
    (s.job.state = .running → s.anyActive = true → s.granted = true → s.decideRevolution = s.go) ∧
    (s.job.state = .running → s.anyActive = true → s.granted = false → s.decideRevolution = s.hold) ∧
    (s.job.state ≠ .running → s.decideRevolution = s) ∧ (s.anyActive = false → s.decideRevolution = s)

/-! ## Track Queues (R47 to R70) -/

namespace Sys2Proof.Claims

/-- A well-formed track part (R177): its flags byte carries FINAL in bit 0 and SIG in bit 1, and SIG says whether the
signature is present. -/
structure Part where
  track : Nat
  tag : Nat
  total : Nat
  offset : Nat
  flags : Byte
  signature : Option (Nat × Nat)
  samples : List Nat

/-- The fields of a part in the ranges of their wires, with 1 to 2040 samples and S in 1 to 16384 (R52). -/
structure Part.Formed (p : Part) : Prop where
  track : p.track < 65536
  tag : p.tag < 65536
  total : 1 ≤ p.total ∧ p.total ≤ 16384
  offset : p.offset < 65536
  sig : p.flags.getLsbD 1 = p.signature.isSome
  halves : ∀ a b, p.signature = some (a, b) → a < 65536 ∧ b < 65536
  samples : 1 ≤ p.samples.length ∧ p.samples.length ≤ 2040
  values : ∀ v ∈ p.samples, v < 65536

/-- FINAL. -/
def Part.final (p : Part) : Bool := p.flags.getLsbD 0

/-- The samples as they are stored: a value above 1000 becomes 1000 (R60). -/
def Part.stored (p : Part) : List Nat := p.samples.map (fun v => min v 1000)

/-- The payload of a part (R177). -/
def Part.bytes (p : Part) : List Byte :=
  be16 p.track ++ be16 p.tag ++ be16 p.total ++ be16 p.offset ++ [p.flags] ++
    (match p.signature with
     | some (a, b) => be16 a ++ be16 b
     | none => []) ++ p.samples.flatMap be16

/-- A part of a head refused: its queue keeps everything but the last refusal, the refused-part counter steps and
PART_REFUSED is posted with the resume point (R51). -/
def refused (h : Head) (track offset : Nat) (reason : RefusalReason) (s : State) : State :=
  let resume :=
    match (s.queues.get h).filling? with
    | some r => (r.number, r.samples.length)
    | none => ((s.queues.get h).expected, 0)
  State.arbitrate (State.post (.partRefused (BitVec.ofNat 8 h.val) (some h) track offset reason resume.1 resume.2)
    { s with
      queues := s.queues.set h { s.queues.get h with lastRefusal := some ⟨reason, track, offset⟩ }
      rpt := { s.rpt with heads := s.rpt.heads.set h (
        { s.rpt.heads.get h with refusedParts := (s.rpt.heads.get h).refusedParts + 1 }) } })

/-- A part of a head accepted with the queue it leaves: the tone-clamp counter steps once when a sample was clamped
(R60), and nothing is sent. -/
def accepted (h : Head) (p : Part) (q : Queue) (s : State) : State :=
  State.arbitrate
    { s with
      queues := s.queues.set h q
      rpt := { s.rpt with heads := s.rpt.heads.set h (
        { s.rpt.heads.get h with
          toneClamped :=
            if p.samples.any (fun v => decide (1000 < v)) then (s.rpt.heads.get h).toneClamped + 1
            else (s.rpt.heads.get h).toneClamped }) } }

/-- A record with its samples, FILLING below S and COMPLETE with its mean tone at S (R56, R61). -/
def grown (r : TrackRecord) (samples : List Nat) : TrackRecord :=
  { r with
    samples := samples
    state := if samples.length = r.total then .complete (samples.sum / r.total) else .filling }

/-- The expected number and the final-seen flag after a record was appended to; a record that reaches S completes
(R61). -/
def afterGrowth (r : TrackRecord) (records : List TrackRecord) (q : Queue) : Queue :=
  if r.samples.length = r.total then
    { q with
      records := records
      expected := if r.number = 65535 then 65535 else r.number + 1
      finalSeen := q.finalSeen || r.final }
  else { q with records := records }

end Sys2Proof.Claims

/-- A TRACK_PART whose header names no head reaches no queue: BAD_FIELD is posted with the header's head value and
the resume point 0, 0, and no counter and no last refusal changes. -/
def Sys2Proof.Claims.PartForNoHeadIsBadField : Prop :=
  ∀ (headByte : Byte) (payload : List Byte) (s : State), s.inReset = false → 3 < headByte.toNat →
    let named := 8 ≤ payload.length
    exec (.trackPart headByte payload) s =
      .next (State.arbitrate (State.post
        (.partRefused headByte none (if named then beNat (payload.take 2) else 0)
          (if named then beNat ((payload.drop 6).take 2) else 0) .badField 0 0) s))

/-- A payload that is not the fixed fields, the signature when SIG is set, and 1 to 2040 whole samples, or whose S is
outside 1 to 16384, is refused with LENGTH before any other check; one too short for its fixed fields reports track 0
and offset 0. -/
def Sys2Proof.Claims.MalformedPartIsRefusedWithLength : Prop :=
  ∀ (h : Head) (p : List Byte) (s : State), s.inReset = false →
    (p.length < 9 →
      exec (.trackPart (BitVec.ofNat 8 h.val) p) s = .next (refused h 0 0 .length s)) ∧
    (9 ≤ p.length →
      let header := if (p.getD 8 0).getLsbD 1 then 13 else 9
      let total := beNat ((p.drop 4).take 2)
      p.length < header ∨ (p.length - header) % 2 ≠ 0 ∨ p.length - header = 0 ∨ 4080 < p.length - header ∨
          total = 0 ∨ 16384 < total →
        exec (.trackPart (BitVec.ofNat 8 h.val) p) s =
          .next (refused h (beNat (p.take 2)) (beNat ((p.drop 6).take 2)) .length s))

/-- A well-formed part of a head meets the checks of R53 to R58 in order: NOT_ENGAGED, TAG, then against the FILLING
record ORDER, LENGTH, DUPLICATE, GAP, LENGTH and BAD_FIELD, or as an opening part GAP, PAST_FINAL, DUPLICATE or
SEQUENCE, BAD_FIELD and QUEUE_FULL. -/
def Obligations.PartIsRefusedByFirstFailingCheck : Prop :=
  ∀ (h : Head) (p : Part) (s : State), s.inReset = false → p.Formed →
    let q := s.queues.get h
    let no := fun reason => exec (.trackPart (BitVec.ofNat 8 h.val) p.bytes) s =
      .next (refused h p.track p.offset reason s)
    let live := s.job.state = .armed ∨ s.job.state = .running ∨ s.job.state = .stopping
    (¬ (live ∧ s.active h = true) → no .notEngaged) ∧
    (live → s.active h = true → p.tag ≠ s.jobTag → no .tag) ∧
    (live → s.active h = true → p.tag = s.jobTag →
      (∀ r, q.filling? = some r →
        let n := p.samples.length
        (p.track ≠ r.number → no .order) ∧
        (p.track = r.number → p.total ≠ r.total → no .length) ∧
        (p.track = r.number → p.total = r.total → p.offset < r.samples.length → no .duplicate) ∧
        (p.track = r.number → p.total = r.total → r.samples.length < p.offset → no .gap) ∧
        (p.track = r.number → p.total = r.total → p.offset = r.samples.length → r.total < p.offset + n →
          no .length) ∧
        (p.track = r.number → p.total = r.total → p.offset = r.samples.length → p.offset + n ≤ r.total →
          p.final = true ∨ p.signature.isSome = true → no .badField)) ∧
      (q.filling? = none →
        (p.offset ≠ 0 → no .gap) ∧
        (p.offset = 0 → q.finalSeen = true → no .pastFinal) ∧
        (p.offset = 0 → q.finalSeen = false → p.track ≠ q.expected →
          (q.start ≤ p.track ∧ p.track < q.expected → no .duplicate) ∧
          (¬ (q.start ≤ p.track ∧ p.track < q.expected) → no .sequence)) ∧
        (p.offset = 0 → q.finalSeen = false → p.track = q.expected → p.track = 65535 → p.final = false →
          no .badField) ∧
        (p.offset = 0 → q.finalSeen = false → p.track = q.expected → (p.track = 65535 → p.final = true) →
          4 ≤ q.records.length → no .queueFull)))

/-- A part that passes every check is accepted in silence: it continues the FILLING record, or opens a record at the
newest end of the queue; its samples are stored clamped, and the record that reaches S completes with its mean tone
and moves the expected number and the final-seen flag. That an opening part with more samples than its S is accepted too
is the model's reading (log entry 32). -/
def Sys2Proof.Claims.AcceptedPartGrowsItsRecord : Prop :=
  ∀ (h : Head) (p : Part) (s : State), s.inReset = false → p.Formed →
    let q := s.queues.get h
    s.job.state = .armed ∨ s.job.state = .running ∨ s.job.state = .stopping → s.active h = true →
    p.tag = s.jobTag →
      (∀ older r, q.records = older ++ [r] → r.state = .filling → q.filling? = some r →
        p.track = r.number → p.total = r.total → p.offset = r.samples.length →
        p.offset + p.samples.length ≤ r.total → p.final = false → p.signature = none →
          let r' := grown r (r.samples ++ p.stored)
          exec (.trackPart (BitVec.ofNat 8 h.val) p.bytes) s =
            .next (accepted h p (afterGrowth r' (older ++ [r']) q) s)) ∧
      (q.filling? = none → p.offset = 0 → q.finalSeen = false → p.track = q.expected →
        (p.track = 65535 → p.final = true) → q.records.length < 4 →
          let r' := grown ⟨p.track, p.total, p.final, p.signature, [], .filling⟩ p.stored
          exec (.trackPart (BitVec.ofNat 8 h.val) p.bytes) s =
            .next (accepted h p (afterGrowth r' (q.records ++ [r']) q) s))

/-- TRACK DISCARD: BAD_PARAM for a head above 3, NONE_FILLING without a FILLING record, and otherwise that record's
buffer freed, with its track number and filled count in the reply. -/
def Sys2Proof.Claims.TrackDiscardFreesFillingRecord : Prop :=
  ∀ (tag : Half) (head : Byte) (s : State), s.inReset = false →
    (3 < head.toNat → exec (.trackDiscard tag [head]) s = .next (answer 0x38 tag .badParam [] s)) ∧
    ∀ h : Head, head.toNat = h.val →
      ((s.queues.get h).filling? = none →
        exec (.trackDiscard tag [head]) s = .next (answer 0x38 tag .noneFilling [] s)) ∧
      ∀ older r, (s.queues.get h).records = older ++ [r] → r.state = .filling →
        (∀ x ∈ older, x.state ≠ .filling) →
          exec (.trackDiscard tag [head]) s =
            .next (answer 0x38 tag .ok (be16 r.number ++ be16 r.samples.length)
              { s with queues := s.queues.set h { s.queues.get h with records := older } })

/-- Every Track Queue keeps its shape at every step: at most four records, consecutive track numbers from oldest to
newest, a FILLING record only newest and a CUTTING record only oldest, a FINAL record always newest, and every stored
sample within 0 to 1000. -/
def Obligations.TrackQueuesStayInOrder : Prop :=
  ∀ s t : State, s.QueuesShaped → step s = .next t → t.QueuesShaped

/-! ## The cell computation (R71 to R94) -/

/-- The depth of a committed curve: at tone 1000 the last breakpoint's, below it the floored interpolation of the
segment that holds the tone; exact at every breakpoint, within its segment, reaching the segment's end only when the
segment is flat, never falling as the tone rises, and at most 1000. -/
def Obligations.GradationInterpolatesExactlyAndInOrder : Prop :=
  ∀ curve : List Entry, imageFault .gradation curve = none →
    let n := entryNat curve 0
    let depth := gradationDepth curve
    depth 1000 = depthOf curve (n - 1) ∧
    (∀ j v, j + 1 < n → toneOf curve j ≤ v → v < toneOf curve (j + 1) →
      depth v = depthOf curve j + (v - toneOf curve j) * (depthOf curve (j + 1) - depthOf curve j) /
        (toneOf curve (j + 1) - toneOf curve j) ∧
      depthOf curve j ≤ depth v ∧ depth v ≤ depthOf curve (j + 1) ∧
      (depth v = depthOf curve (j + 1) → depthOf curve j = depthOf curve (j + 1))) ∧
    (∀ j, j < n → depth (toneOf curve j) = depthOf curve j) ∧
    (∀ v w, v ≤ w → w ≤ 1000 → depth v ≤ depth w) ∧
    (∀ v, v ≤ 1000 → depthOf curve 0 ≤ depth v ∧ depth v ≤ depthOf curve (n - 1) ∧ depth v ≤ 1000)

/-- The word of a cell: below the cutoff the lift code, closed; otherwise the depth with the runout of its angle
segment and the wear offset, clamped to the head's range, through gain and base with a half rounded up, and clamped
to 0 to 4095. The four marks say which counter the stroke steps. -/
def Sys2Proof.Claims.CellWordFollowsFiveStages : Prop :=
  ∀ (hc curve : List Entry) (ring : Option (List Entry)) (e a w v : Nat), hcCutoff hc ≤ hcMaxDepth hc →
    let d0 : Int := gradationDepth curve v
    let runout : Int :=
      match ring with
      | some entries => entryInt entries (a * 256 / e)
      | none => 0
    let sum : Int := d0 + runout + (min (hcWearCap hc) (w * hcWearRate hc / 1024) : Nat)
    let d1 := max (hcCutoff hc) (min (hcMaxDepth hc) sum)
    let code := hcBase hc + (d1 * hcGain hc + 512) / 1024
    (d0 < hcCutoff hc →
      computeCell hc curve ring e a w v =
        { word := hcLift hc, closed := true, lowClamp := false, highClamp := false, codeClamp := false }) ∧
    (hcCutoff hc ≤ d0 →
      computeCell hc curve ring e a w v =
        { word := (max 0 (min 4095 code)).toNat, closed := false
          lowClamp := decide (sum < hcCutoff hc), highClamp := decide (hcMaxDepth hc < sum)
          codeClamp := decide (code < 0 ∨ 4095 < code) })

/-- Every word of a committed head calibration lies in 0 to 4095, and at one angle and one wear a cut cell of higher
tone never receives a lower word than a cut cell of lower tone. -/
def Sys2Proof.Claims.CutWordsKeepOrderOfTones : Prop :=
  ∀ (hc curve : List Entry) (ring : Option (List Entry)) (e a w u v : Nat),
    imageFault .headcal hc = none → imageFault .gradation curve = none → u ≤ v → v ≤ 1000 →
      let low := computeCell hc curve ring e a w u
      let high := computeCell hc curve ring e a w v
      low.word ≤ 4095 ∧ (low.closed = false → high.closed = false ∧ low.word ≤ high.word)

namespace Sys2Proof.Claims

/-- The channel of a head cuts C cells: those of the screen while it is CUTTING with a track in progress, and those of
the working copy while it is in the cut phase of a calibration (R74, R80). -/
def cutsCells (h : Head) (c : Nat) (s : State) : Prop :=
  (s.channelState h = .cutting ∧ s.jobCells = c ∧
    ∃ r rest m s1 s2, (s.queues.get h).records = r :: rest ∧ r.state = .cutting m s1 s2) ∨
  (s.channelState h = .calibrating ∧ ∃ u, (s.cals.get h).phase = .cut u ∧ u.cells = c)

/-- The channel of a head after forward counts at it, one for each angle of a list. -/
def channelAfter (h : Head) (angles : List Nat) (s : State) : Channel :=
  (angles.foldl (fun t a => t.countHead a h) s).channels.get h

end Sys2Proof.Claims

/-- Forward counts at a channel that starts a track or a test cut at cell 0: cell k is stroked at the smallest count m
at which acc0 + m C reaches (k + 1) E, and the accumulator stays below E; with 4 C at most E and the starts of R73 and
R142 exactly C cells are stroked in a revolution, the last of them at count E - floor(acc0 / C), before its E-th. -/
def Obligations.StrokesSpreadEvenlyOverRevolution : Prop :=
  ∀ (h : Head) (c : Nat) (angles : List Nat) (s : State), cutsCells h c s → 0 < c → 4 * c ≤ s.counts →
    (s.channels.get h).cellIndex = 0 → (s.channels.get h).accumulator < s.counts →
      let e := s.counts
      let acc0 := (s.channels.get h).accumulator
      let reached := acc0 + angles.length * c
      let after := channelAfter h angles s
      after.cellIndex = min c (reached / e) ∧ after.accumulator < e ∧
        (reached / e < c → after.accumulator = reached % e) ∧
        (acc0 = e / 4 ∨ acc0 = e / 4 + e / 2 →
          c ≤ acc0 ∧ acc0 ≤ e - c ∧ 1 ≤ e - acc0 / c ∧ e - acc0 / c ≤ e - 1 ∧
            (after.cellIndex = c ↔ e - acc0 / c ≤ angles.length))

namespace Sys2Proof.Claims

/-- A stroke of a head taken whole (R75, R80): the port, the history, the wear of a cut cell, the cell index and the
tag; `acc` is the accumulator after the count, `count` the cell counters it steps and `q` the queue it leaves. An
unmatched entry pushed out of the full history is missing, and the 64th in a run raises MONITOR_LOST (R125, R131). -/
def struck (h : Head) (acc : Nat) (k : Stroke) (count : CellCounters → CellCounters) (q : Queue) (s : State) :
    State :=
  let c := s.channels.get h
  let m := s.monitors.get h
  let full := decide (16 ≤ m.history.length)
  let missing := full && (m.history.head?.any (fun e => !e.matched))
  let lost := missing && decide (64 ≤ m.missingRun + 1)
  let counters := s.rpt.heads.get h
  let counted := count counters.cells
  let after : State :=
    { s with
      channels := s.channels.set h (
        { c with
          accumulator := acc, cellIndex := c.cellIndex + 1, tag := c.tag + 1
          portWord := BitVec.ofNat 12 k.word, portTag := c.tag, strobes := c.strobes + 1
          wearSub := if k.closed then c.wearSub else c.wearSub + 1
          wear := if k.closed = false ∧ c.wearSub = 65535 then min 65535 (c.wear + 1) else c.wear })
      queues := s.queues.set h q
      monitors := s.monitors.set h (
        { m with
          history := (if full then m.history.drop 1 else m.history) ++ [⟨c.tag, k.word, k.closed, false⟩]
          missingRun := if lost then 0 else if missing then m.missingRun + 1 else m.missingRun })
      rpt := { s.rpt with heads := s.rpt.heads.set h (
        { counters with
          cells := if missing then { counted with missing := min 16777215 (counted.missing + 1) } else counted
          stylusFaults := if lost then counters.stylusFaults + 1 else counters.stylusFaults }) } }
  if lost then
    after.post (.stylusFault h .monitorLost (m.missingRun + 1) ((m.history.head?.map (·.tag)).getD 0) none
      (s.channelState h) (s.faultAction h))
  else after

/-- The cell counters a track stroke steps (R92): 24-bit saturating. -/
def counted (k : Stroke) (n : CellCounters) : CellCounters :=
  { n with
    closed := if k.closed then min 16777215 (n.closed + 1) else n.closed
    lowClamp := if k.lowClamp then min 16777215 (n.lowClamp + 1) else n.lowClamp
    highClamp := if k.highClamp then min 16777215 (n.highClamp + 1) else n.highClamp
    codeClamp := if k.codeClamp then min 16777215 (n.codeClamp + 1) else n.codeClamp }

end Sys2Proof.Claims

/-- A forward count at a CUTTING channel with a track in progress: past the last cell nothing, below E the increased
accumulator alone, and otherwise the stroke of the present cell, whose word is that of its sample and angle and
advances the record's two sums. -/
def Sys2Proof.Claims.CountAtCuttingChannelStrokesItsCell : Prop :=
  ∀ (h : Head) (angle : Nat) (s : State) (r : TrackRecord) (rest : List TrackRecord) (mean s1 s2 : Nat),
    s.channelState h = .cutting → (s.queues.get h).records = r :: rest → r.state = .cutting mean s1 s2 →
      let c := s.channels.get h
      (s.jobCells ≤ c.cellIndex → s.countHead angle h = s) ∧
      (c.cellIndex < s.jobCells → c.accumulator + s.jobCells < s.counts →
        s.countHead angle h =
          { s with channels := s.channels.set h { c with accumulator := c.accumulator + s.jobCells } }) ∧
      (c.cellIndex < s.jobCells → s.counts ≤ c.accumulator + s.jobCells →
        let k := computeCell (s.headcal h) (s.curve h) (s.ring h) s.counts angle c.wear
          (r.samples.getD (c.cellIndex * r.total / s.jobCells) 0)
        let a := (s1 + k.word) % 65535
        s.countHead angle h =
          struck h (c.accumulator + s.jobCells - s.counts) k (counted k)
            { s.queues.get h with
              records := { r with state := .cutting mean a ((s2 + a) % 65535) } :: rest } s)

/-- A forward count at a channel in the cut phase of a calibration: the same generator with the copied C, the two test
codes and then the lift code as words, no sums and no cell counter; a channel that cuts nothing takes no count. -/
def Sys2Proof.Claims.CountAtCalibratingChannelStrokesPattern : Prop :=
  ∀ (h : Head) (angle : Nat) (s : State),
    (∀ u, s.channelState h = .calibrating → (s.cals.get h).phase = .cut u →
      let c := s.channels.get h
      let k : Stroke :=
        if c.cellIndex < u.cellsPerLevel then ⟨u.codeLo, false, false, false, false⟩
        else if c.cellIndex < 2 * u.cellsPerLevel then ⟨u.codeHi, false, false, false, false⟩
        else ⟨hcLift u.headcal, true, false, false, false⟩
      (u.cells ≤ c.cellIndex → s.countHead angle h = s) ∧
      (c.cellIndex < u.cells → c.accumulator + u.cells < s.counts →
        s.countHead angle h =
          { s with channels := s.channels.set h { c with accumulator := c.accumulator + u.cells } }) ∧
      (c.cellIndex < u.cells → s.counts ≤ c.accumulator + u.cells →
        s.countHead angle h =
          struck h (c.accumulator + u.cells - s.counts) k (fun n => n) (s.queues.get h) s)) ∧
    (s.channelState h ≠ .cutting → (∀ u, s.channelState h = .calibrating → (s.cals.get h).phase ≠ .cut u) →
      s.countHead angle h = s)

/-- A count is handed to all four channels: with no MONITOR_LOST due at it, each head stands after it as its own count
leaves it, and nothing outside the heads' channels, queues, histories and counters changes. -/
def Sys2Proof.Claims.CountReachesEveryHeadOnItsOwn : Prop :=
  ∀ (angle : Nat) (s : State), (∀ h : Head, s.countLoses h = false) →
    let t := State.countAll angle s
    (∀ h : Head,
      t.channels.get h = (s.countHead angle h).channels.get h ∧
      t.queues.get h = (s.countHead angle h).queues.get h ∧
      t.monitors.get h = (s.countHead angle h).monitors.get h ∧
      t.rpt.heads.get h = (s.countHead angle h).rpt.heads.get h) ∧
    t = { s with
      channels := t.channels, queues := t.queues, monitors := t.monitors
      rpt := { s.rpt with heads := t.rpt.heads } }

/-- When strokes of one count raise MONITOR_LOST at heads whose policy is ABORT_JOB, the job is ABORTED with that cause
whatever the free value of log entry 8 says of the order, and nothing of the tables, settings, record and lines
changes. -/
def Sys2Proof.Claims.LostMonitorAbortsInEitherOrder : Prop :=
  ∀ (angle : Nat) (s : State), jobLive s.job.state = true → (∃ h : Head, s.countAborts h = true) →
    let t := State.countAll angle s
    t.job.state = .aborted ∧ t.job.abortCause = some .monitorLost ∧ t.job.record = s.job.record ∧
      t.anyActive = false ∧ t.ctu.feedEn = false ∧ t.store = s.store ∧ t.ctu.settings = s.ctu.settings ∧
      t.ctu.angle = s.ctu.angle ∧ t.lines = s.lines

/-! ## The job and its channels (R95 to R122) -/

namespace Sys2Proof.Claims

/-- The fields a JOB DEFINE carries; each head has an entry (R182). -/
structure Define where
  tag : Nat
  heads : Nat
  screen : Nat
  gradation : PerHead Nat
  runout : PerHead Nat
  priority : PerHead Nat
  policy : PerHead Nat
  start : Nat
  hold : Nat
  n : Nat
  m : Nat

/-- The fields lie in the ranges of their wires. -/
structure Define.Fits (d : Define) : Prop where
  halves : d.tag < 65536 ∧ d.start < 65536
  bytes : d.heads < 256 ∧ d.screen < 256 ∧ d.hold < 256 ∧ d.n < 256 ∧ d.m < 256
  entries : ∀ h : Head, d.gradation.get h < 256 ∧ d.runout.get h < 256 ∧ d.priority.get h < 256 ∧
    d.policy.get h < 256

/-- The parameter bytes of a JOB DEFINE (R182). -/
def Define.bytes (d : Define) : List Byte :=
  be16 d.tag ++ be8 d.heads ++ be8 d.screen ++
    allHeads.flatMap (fun h =>
      be8 (d.gradation.get h) ++ be8 (d.runout.get h) ++ be8 (d.priority.get h) ++ be8 (d.policy.get h)) ++
    be16 d.start ++ be8 d.hold ++ be8 d.n ++ be8 d.m

/-- Head h is in the head set. -/
def Define.has (d : Define) (h : Head) : Bool := d.heads.testBit h.val

/-- The field at a position fails its check (R96). -/
def Define.bad (d : Define) (position : Nat) : Prop :=
  (position = 1 ∧ d.tag = 0) ∨ (position = 2 ∧ (d.heads = 0 ∨ 15 < d.heads)) ∨ (position = 3 ∧ 36 < d.screen) ∨
  (∃ h : Head, d.has h = true ∧
    ((position = 4 + 4 * h.val ∧ 36 < d.gradation.get h) ∨
     (position = 5 + 4 * h.val ∧ 36 < d.runout.get h ∧ d.runout.get h ≠ 255) ∨
     (position = 6 + 4 * h.val ∧ 3 < d.priority.get h) ∨ (position = 7 + 4 * h.val ∧ 1 < d.policy.get h))) ∨
  (position = 21 ∧ d.hold = 0) ∨ (position = 22 ∧ (d.n < 1 ∨ 16 < d.n)) ∨ (position = 23 ∧ d.m = 0)

/-- The record a JOB DEFINE makes; entries of heads outside the set are not kept (R95, R96). -/
def Define.record (d : Define) : JobRecord :=
  { tag := d.tag, screen := d.screen
    heads := PerHead.ofFn (fun h =>
      if d.has h then
        some
          { gradation := d.gradation.get h
            runout := if d.runout.get h = 255 then none else some (d.runout.get h)
            priority := d.priority.get h
            policy := if d.policy.get h = 0 then .abortJob else .parkHead }
      else none)
    startTrack := d.start, holdLimit := d.hold, skipN := d.n, skipM := d.m }

end Sys2Proof.Claims

/-- JOB DEFINE: STATE outside SETUP; in SETUP the first field that fails is named by its position and the record stays,
and otherwise the whole record is replaced. -/
def Obligations.JobDefineReplacesRecord : Prop :=
  ∀ (tag : Half) (d : Define) (s : State), s.inReset = false → d.Fits →
    (s.job.state ≠ .setup →
      exec (.jobDefine tag d.bytes) s = .next (answer 0x30 tag .state (be8 (jobStateCode s.job.state)) s)) ∧
    (s.job.state = .setup → ∀ n, d.bad n → (∀ m, m < n → ¬ d.bad m) →
      exec (.jobDefine tag d.bytes) s = .next (answer 0x30 tag .badParam (be8 n) s)) ∧
    (s.job.state = .setup → (∀ n, ¬ d.bad n) →
      exec (.jobDefine tag d.bytes) s =
        .next (answer 0x30 tag .ok [] { s with job := { s.job with record := some d.record } }))

namespace Sys2Proof.Claims

/-- A slot is of a kind and neither EMPTY nor COMMITTING. -/
def usable (s : State) (slot : Nat) : Prop :=
  (s.store.slot slot).state = .valid ∨ (s.store.slot slot).state = .bound

/-- The slots of step 6 of R98 in its order, each with the kind it must have. -/
def namedTables (r : JobRecord) : List (Nat × SlotKind) :=
  (r.screen, .screen) :: allHeads.flatMap (fun h =>
    match r.heads.get h with
    | none => []
    | some e =>
      (e.gradation, .gradation) ::
        (match e.runout with
         | none => []
         | some i => [(i, .runout)]))

/-- The slots of step 8 of R98 in its order. -/
def namedFixed (r : JobRecord) : List Nat :=
  (allHeads.filter (fun h => (r.heads.get h).isSome)).map (fun h => 32 + h.val) ++ [36]

/-- The worst-case demands of the heads of priority 0 of the set (R159, R166). -/
def vitalDemand (r : JobRecord) (s : State) : Nat :=
  ((allHeads.filter (fun h =>
    match r.heads.get h with
    | some e => e.priority == 0
    | none => false)).map (fun h => hcIdlePower (s.headcal h) + hcPowerSpan (s.headcal h))).sum

/-- The part after a successful ARM (R99). -/
def armedState (r : JobRecord) (s : State) : State :=
  let bound := (namedTables r).map Prod.fst ++ namedFixed r
  State.post (.jobState r.tag .armed none none)
    { s with
      job := { s.job with state := .armed, result := none, abortCause := none }
      store := { s.store with
        slots := s.store.slots.mapIdx (fun i v => if i ∈ bound then { v with state := .bound } else v) }
      queues := PerHead.const
        { records := [], expected := r.startTrack, start := r.startTrack, finalSeen := false
          lastRefusal := none }
      channels := s.channels.mapIdx (fun h c =>
        if (r.heads.get h).isSome then { c with state := .primed, engage := true } else c)
      monitors := s.monitors.mapIdx (fun h m =>
        { history := [], liftRun := 0, deviationRun := 0, missingRun := 0
          params :=
            if (r.heads.get h).isSome then
              let e := s.headcal h
              some ⟨entryNat e 6, entryNat e 7, entryNat e 8, entryNat e 9, entryNat e 10, entryNat e 11⟩
            else m.params })
      dbu := { s.dbu with
        candidates := PerHead.ofFn (isShed (shedOrder (fun h => s.priority h)
          (fun h => hcIdlePower (s.headcal h) + hcPowerSpan (s.headcal h))
          (fun h => (r.heads.get h).isSome) (s.budgetOf s.dbu.bank))) }
      rpt := { s.rpt with
        skipN := r.skipN, skipM := r.skipM, skips := PerHead.const ⟨0, 0⟩, holdTotal := 0
        heads := s.rpt.heads.mapIdx (fun _ c => { c with cells := ⟨0, 0, 0, 0, 0, 0, 0, 0, 0⟩ }) } }

end Sys2Proof.Claims

/-- ARM succeeds when every check of R98 passes, the last of them that the worst-case demands of the heads of priority 0
fit the present budget, and then arms the job: slots bound, queues prepared, heads engaged, histories, runs, cell
counters and skips cleared, candidates computed, JOB_STATE posted. -/
def Obligations.ArmBindsTablesAndEngagesHeads : Prop :=
  ∀ (tag : Half) (r : JobRecord) (s : State), s.inReset = false →
    s.job.state = .setup → s.job.record = some r → s.lines.estopN = true →
    s.ctu.settings.isSome = true → s.ctu.resolved.isSome = true →
    (∀ h : Head, s.channelState h ≠ .calibrating) →
    (∀ x ∈ namedTables r, slotKind x.1 = x.2 ∧ usable s x.1) → 4 * s.jobCells ≤ s.counts →
    (∀ i ∈ namedFixed r, usable s i) →
    (∀ i, s.store.owner = some i → i ∉ (namedTables r).map Prod.fst ++ namedFixed r) →
    vitalDemand r s ≤ s.budgetOf s.dbu.bank →
      exec (.arm tag []) s = .next (answer 0x31 tag .ok [] (armedState r s))

/-- ARM in SETUP is refused by the first check of R98 that fails, with the step and the slot or head concerned, and
changes nothing: steps 2 to 5 on the record, the emergency line, the timing and the calibrations, then the tables in
order, the geometry, the head calibrations and budgets in order, the staging owner, and the budget. -/
def Obligations.ArmIsRefusedByFirstFailingStep : Prop :=
  ∀ (tag : Half) (s : State), s.inReset = false → s.job.state = .setup →
    let no := fun (status : Status) (data : List Byte) =>
      exec (.arm tag []) s = .next (answer 0x31 tag status data s)
    (s.job.record = none → no .state [2]) ∧
    ∀ r, s.job.record = some r →
      (s.lines.estopN = false → no .emergency [3]) ∧
      (s.lines.estopN = true → s.ctu.settings = none ∨ s.ctu.resolved = none → no .timing [4]) ∧
      (s.lines.estopN = true → s.ctu.settings.isSome = true → s.ctu.resolved.isSome = true →
        (∀ h : Head, s.channelState h = .calibrating → (∀ g : Head, g < h → s.channelState g ≠ .calibrating) →
          no .headBusy ([5] ++ be8 h.val)) ∧
        ((∀ h : Head, s.channelState h ≠ .calibrating) →
          (∀ before i kind after, namedTables r = before ++ (i, kind) :: after →
            (∀ x ∈ before, slotKind x.1 = x.2 ∧ usable s x.1) →
              (slotKind i ≠ kind → no .badParam ([6] ++ be8 i)) ∧
              (slotKind i = kind → (s.store.slot i).state = .empty → no .empty ([6] ++ be8 i)) ∧
              (slotKind i = kind → (s.store.slot i).state = .committing → no .busy ([6] ++ be8 i))) ∧
          ((∀ x ∈ namedTables r, slotKind x.1 = x.2 ∧ usable s x.1) →
            (s.counts < 4 * s.jobCells → no .geometry [7]) ∧
            (4 * s.jobCells ≤ s.counts →
              (∀ before i after, namedFixed r = before ++ i :: after → (∀ j ∈ before, usable s j) →
                ((s.store.slot i).state = .empty → no .empty ([8] ++ be8 i)) ∧
                ((s.store.slot i).state = .committing → no .busy ([8] ++ be8 i))) ∧
              ((∀ i ∈ namedFixed r, usable s i) →
                (∀ i, s.store.owner = some i → i ∈ (namedTables r).map Prod.fst ++ namedFixed r →
                  no .staging ([9] ++ be8 i)) ∧
                ((∀ i, s.store.owner = some i → i ∉ (namedTables r).map Prod.fst ++ namedFixed r) →
                  ∀ h : Head, s.budgetOf s.dbu.bank < vitalDemand r s →
                    (∃ e, r.heads.get h = some e ∧ e.priority = 0) →
                    (∀ g : Head, h < g → ∀ e, r.heads.get g = some e → e.priority ≠ 0) →
                    no .budget ([10] ++ be8 h.val)))))))

namespace Sys2Proof.Claims

/-- The CHANNEL_STATE event of a channel that returns to OFF at DISARM or RELEASE (R117). -/
def offEvent (s : State) (h : Head) : Event :=
  .channelState h .off none none (s.queues.get h).counts.complete (s.queues.get h).counts.filling ⟨0, 0, 0⟩

/-- DISARM's and RELEASE's common effects: the channels that leave become OFF, every queue is emptied, every BOUND slot
becomes VALID, the candidates are empty and the job is SETUP (R100, R103, R165). -/
def freed (leaves : ChannelState → Bool) (s : State) : State :=
  { s with
    channels := s.channels.mapIdx (fun _ c =>
      if leaves c.state then { c with state := .off, engage := false } else c)
    queues := s.queues.mapIdx (fun _ q => { q with records := [] })
    store := { s.store with slots := s.store.slots.map (fun v =>
      if v.state = .bound then { v with state := .valid } else v) }
    dbu := { s.dbu with candidates := PerHead.const false }
    job := { s.job with state := .setup } }

/-- The events of the channels that leave, in ascending head order, and then JOB_STATE for SETUP. -/
def freedEvents (leaves : ChannelState → Bool) (s : State) : List Event :=
  (allHeads.filter (fun h => leaves (s.channelState h))).map (offEvent s) ++
    [.jobState s.jobTag .setup none none]

end Sys2Proof.Claims

/-- DISARM in ARMED and RELEASE in ENDED or ABORTED free heads, queues and slots, keep the record and post CHANNEL_STATE
and then JOB_STATE; RELEASE also empties the stroke histories. In every other job state they are refused with STATE. -/
def Obligations.DisarmAndReleaseFreeHeadsAndTables : Prop :=
  ∀ (tag : Half) (s : State), s.inReset = false →
    (s.job.state ≠ .armed →
      exec (.disarm tag []) s = .next (answer 0x32 tag .state (be8 (jobStateCode s.job.state)) s)) ∧
    (¬ (s.job.state = .ended ∨ s.job.state = .aborted) →
      exec (.release tag []) s = .next (answer 0x36 tag .state (be8 (jobStateCode s.job.state)) s)) ∧
    (s.job.state = .armed →
      exec (.disarm tag []) s =
        .next (answer 0x32 tag .ok []
          (State.postAll (freedEvents (fun c => c != .off) s) (freed (fun c => c != .off) s)))) ∧
    (s.job.state = .ended ∨ s.job.state = .aborted →
      let leaves := fun c : ChannelState => c == .done || c == .parked || c == .halted
      exec (.release tag []) s =
        .next (answer 0x36 tag .ok []
          (State.postAll (freedEvents leaves s)
            { freed leaves s with monitors := s.monitors.mapIdx (fun _ m => { m with history := [] }) })))

/-- START: STATE outside ARMED, then EMERGENCY while ESTOP_N is asserted, SPEED while the last period is invalid or
outside the hard window, and otherwise RUNNING with the hold count at 0, and an abort at the same event when
FEED_FAULT is asserted. -/
def Sys2Proof.Claims.StartRunsOrAbortsOnFeedFault : Prop :=
  ∀ (tag : Half) (s : State), s.inReset = false →
    (s.job.state ≠ .armed →
      exec (.start tag []) s = .next (answer 0x33 tag .state (be8 (jobStateCode s.job.state)) s)) ∧
    (s.job.state = .armed → s.lines.estopN = false →
      exec (.start tag []) s = .next (answer 0x33 tag .emergency [] s)) ∧
    (s.job.state = .armed → s.lines.estopN = true → s.withinHard = false →
      exec (.start tag []) s = .next (answer 0x33 tag .speed [] s)) ∧
    (s.job.state = .armed → s.lines.estopN = true → s.withinHard = true →
      let running := State.post (.jobState s.jobTag .running none none)
        { s with job := { s.job with state := .running }, ctu := { s.ctu with holdCount := 0 } }
      exec (.start tag []) s =
        .next (answer 0x33 tag .ok []
          (if s.lines.feedFault = true then running.abortJob .feedFault else running)))

/-- STOP: STATE outside RUNNING; in RUNNING the job is STOPPING, JOB_STATE is posted, and no channel changes. -/
def Sys2Proof.Claims.StopChangesNoChannel : Prop :=
  ∀ (tag : Half) (s : State), s.inReset = false →
    (s.job.state ≠ .running →
      exec (.stop tag []) s = .next (answer 0x34 tag .state (be8 (jobStateCode s.job.state)) s)) ∧
    (s.job.state = .running →
      exec (.stop tag []) s =
        .next (answer 0x34 tag .ok []
          (State.post (.jobState s.jobTag .stopping none none) { s with job := { s.job with state := .stopping } })))

namespace Sys2Proof.Claims

/-- A head leaves its job behind with an account of its track (R114): the number, the cells emitted, the two sums and
the SHORT mark of the CUTTING record of a CUTTING channel. -/
def accountOf (h : Head) (s : State) : Option Account :=
  match s.channelState h, (s.queues.get h).inProgress with
  | .cutting, some r =>
    some ⟨r.number, (s.channels.get h).cellIndex, r.sums.1, r.sums.2,
      decide ((s.channels.get h).cellIndex < s.jobCells)⟩
  | _, _ => none

/-- The short-track counter after a departure (R114). -/
def shortCount (h : Head) (s : State) (c : HeadCounters) : HeadCounters :=
  if (accountOf h s).any (·.short) then { c with shortTracks := c.shortTracks + 1 } else c

/-- The CHANNEL_STATE event of a departure (R117): every record of the queue is freed. -/
def leaveEvent (h : Head) (st : ChannelState) (cause : StopCause) (s : State) : Event :=
  .channelState h st (some cause) (accountOf h s) (s.queues.get h).counts.complete
    (s.queues.get h).counts.filling ⟨0, 0, 0⟩

/-- The part after an abort of a live job with a cause, before its events (R105, steps 1 to 4). -/
def halted (cause : StopCause) (s : State) : State :=
  { s with
    job := { s.job with state := .aborted, result := none, abortCause := some cause }
    channels := s.channels.mapIdx (fun h c =>
      if s.active h then { c with state := .halted, engage := false, lastStop := some cause } else c)
    queues := s.queues.mapIdx (fun h q => if s.active h then { q with records := [] } else q)
    dbu := { s.dbu with demand := s.dbu.demand.mapIdx (fun h d => if s.active h then 0 else d) }
    ctu := { s.ctu with feedEn := false }
    rpt := { s.rpt with heads := s.rpt.heads.mapIdx (fun h c => if s.active h then shortCount h s c else c) } }

/-- The events of an abort, in ascending head order, JOB_STATE last (R105, step 5). -/
def haltingEvents (cause : StopCause) (s : State) : List Event :=
  (allHeads.filter (fun h => s.active h)).map (fun h => leaveEvent h .halted cause s) ++
    [.jobState s.jobTag .aborted none (some cause)]

/-- One head leaves the job (R115, R116): the channel, its demand, its queue, its short-track counter and FEED_EN, and
then its CHANNEL_STATE event. -/
def left (h : Head) (st : ChannelState) (cause : StopCause) (s : State) : State :=
  State.post (leaveEvent h st cause s)
    { s with
      channels := s.channels.set h (
        { s.channels.get h with state := st, engage := false, lastStop := some cause })
      queues := s.queues.set h { s.queues.get h with records := [] }
      dbu := { s.dbu with demand := s.dbu.demand.set h 0 }
      ctu := { s.ctu with
        feedEn := s.ctu.feedEn && allHeads.any (fun g => g != h && s.channelState g == .cutting) }
      rpt := { s.rpt with heads := s.rpt.heads.set h (shortCount h s (s.rpt.heads.get h)) } }

/-- The result of a job that ends with its channels as they stand (R104). -/
def jobResult (s : State) : JobResult :=
  if s.job.state = .stopping then .stopped
  else if ∀ h : Head, (s.headEntry h).isSome = true → s.channelState h = .done then .complete
  else .partialEnd

/-- The end of a job: ENDED with its result, and JOB_STATE, when it is live and no channel is active any more
(R104). -/
def jobClosed (s : State) : State :=
  if (s.job.state = .armed ∨ s.job.state = .running ∨ s.job.state = .stopping) ∧
      ∀ h : Head, s.active h = false then
    State.post (.jobState s.jobTag .ended (some (jobResult s)) none)
      { s with job := { s.job with state := .ended, result := some (jobResult s), abortCause := none } }
  else s

/-- The result of a job that ends as head h is parked (R104): STOPPED from STOPPING, otherwise COMPLETE when every
channel of the head set is DONE, and PARTIAL in every other case. -/
def endedResult (h : Head) (s : State) : JobResult :=
  if s.job.state = .stopping then .stopped
  else if allHeads.all (fun g => (s.headEntry g).isNone || (g != h && s.channelState g == .done)) then .complete
  else .partialEnd

end Sys2Proof.Claims

/-- An abort cause acts while the job is ARMED, RUNNING or STOPPING: the job is ABORTED with it, every active channel is
HALTED with its queue emptied, FEED_EN is dropped, and the events are posted; in any other job state it does nothing. -/
def Sys2Proof.Claims.AbortHaltsEveryActiveChannel : Prop :=
  ∀ (cause : StopCause) (s : State),
    (s.job.state = .armed ∨ s.job.state = .running ∨ s.job.state = .stopping →
      s.abortJob cause = State.postAll (haltingEvents cause s) (halted cause s)) ∧
    (s.job.state = .setup ∨ s.job.state = .ended ∨ s.job.state = .aborted → s.abortJob cause = s)

/-- The ABORT command aborts a live job with ABORT_COMMAND, and its reply is placed after the abort has acted; in any
other job state it is refused with STATE. -/
def Sys2Proof.Claims.AbortCommandAbortsJob : Prop :=
  ∀ (tag : Half) (s : State), s.inReset = false →
    let live := s.job.state = .armed ∨ s.job.state = .running ∨ s.job.state = .stopping
    (¬ live → exec (.abort tag []) s = .next (answer 0x35 tag .state (be8 (jobStateCode s.job.state)) s)) ∧
    (live →
      exec (.abort tag []) s =
        .next (answer 0x35 tag .ok []
          (State.postAll (haltingEvents .abortCommand s) (halted .abortCommand s))))

/-- A change of ESTOP_N is noticed; an assertion aborts a live job with EMERGENCY and then fails every calibration in
progress; the return of the line is noticed and resumes nothing. -/
def Sys2Proof.Claims.EmergencyStopAbortsJobAndCalibrations : Prop :=
  ∀ s : State, s.inReset = false →
    (s.lines.estopN = true →
      let noted := State.post (.estop false) { s with lines := { s.lines with estopN := false } }
      exec (.estop false) s =
        .next (State.arbitrate (State.failAllCals .emergency (noted.abortJob .emergency)))) ∧
    (s.lines.estopN = false →
      exec (.estop true) s =
        .next (State.arbitrate (State.post (.estop true)
          { s with lines := { s.lines with estopN := true } })))

/-- HEAD PARK: STATE outside ARMED, RUNNING and STOPPING, BAD_PARAM above head 3, STATE with the channel state for a
channel that is not active, and otherwise the channel PARKED with PARK_COMMAND, its queue emptied and CHANNEL_STATE
posted; when no active channel remains the job ENDS with the result of R104. -/
def Obligations.HeadParkRemovesHeadAndMayEndJob : Prop :=
  ∀ (tag : Half) (head : Byte) (s : State), s.inReset = false →
    let live := s.job.state = .armed ∨ s.job.state = .running ∨ s.job.state = .stopping
    (¬ live →
      exec (.headPark tag [head]) s = .next (answer 0x37 tag .state (be8 (jobStateCode s.job.state)) s)) ∧
    (live → 3 < head.toNat → exec (.headPark tag [head]) s = .next (answer 0x37 tag .badParam [] s)) ∧
    ∀ h : Head, live → head.toNat = h.val →
      (s.active h = false →
        exec (.headPark tag [head]) s =
          .next (answer 0x37 tag .state (be8 (channelStateCode (s.channelState h))) s)) ∧
      (s.active h = true →
        let t := left h .parked .parkCommand s
        exec (.headPark tag [head]) s =
          .next (answer 0x37 tag .ok []
            (if (allHeads.all (fun g => g == h || !s.active g)) = true then
              State.post (.jobState s.jobTag .ended (some (endedResult h s)) none)
                { t with job := { t.job with
                    state := .ended, result := some (endedResult h s), abortCause := none } }
            else t)))

/-- A head that is parked or halted by itself leaves the job with its account and its CHANNEL_STATE event, and the job
ends when it was the last active one. -/
def Sys2Proof.Claims.HeadLeavingJobMayEndIt : Prop :=
  ∀ (h : Head) (st : ChannelState) (cause : StopCause) (s : State), st = .parked ∨ st = .halted →
    s.leaveJob h st cause = jobClosed (left h st cause s)

/-- A boundary in job STOPPING halts every channel that is still active, PRIMED and WAITING ones too, with
STOP_COMMAND; in every other job state, and for a channel that is not active, it moves none. -/
def Sys2Proof.Claims.StoppingBoundaryHaltsActiveHeads : Prop :=
  ∀ (h : Head) (s : State),
    (s.job.state = .stopping → s.active h = true → s.stopHead h = jobClosed (left h .halted .stopCommand s)) ∧
    (s.job.state ≠ .stopping ∨ s.active h = false → s.stopHead h = s)

/-- Retirement at a boundary (R111, R112): a SHORT track and a mismatched one step their counters, the record is freed,
TRACK_DONE and for a mismatch SIGNATURE_MISMATCH are posted; then a FINAL track makes the channel DONE with its
CHANNEL_STATE event and may end the job, a job STOPPING makes it HALTED, and otherwise it stays CUTTING with no track in
progress. A channel without a track in progress retires nothing. -/
def Sys2Proof.Claims.RetirementFreesAndReportsTrack : Prop :=
  ∀ (h : Head) (s : State),
    (∀ (r : TrackRecord) (rest : List TrackRecord) (mean s1 s2 : Nat),
      s.channelState h = .cutting → (s.queues.get h).records = r :: rest → r.state = .cutting mean s1 s2 →
        let cells := (s.channels.get h).cellIndex
        let short := decide (cells < s.jobCells)
        let isMatch := r.signature == some (s1, s2)
        let wrong := r.signature.isSome && !isMatch
        let q := { s.queues.get h with records := rest }
        let freed : State :=
          { s with
            queues := s.queues.set h q
            dbu := { s.dbu with demand := s.dbu.demand.set h 0 }
            rpt := { s.rpt with heads := s.rpt.heads.set h (
              { s.rpt.heads.get h with
                shortTracks := if short then (s.rpt.heads.get h).shortTracks + 1
                  else (s.rpt.heads.get h).shortTracks
                mismatches := if wrong then (s.rpt.heads.get h).mismatches + 1
                  else (s.rpt.heads.get h).mismatches }) } }
        let done := State.postAll
          (.trackDone h r.number cells s1 s2 r.signature.isSome isMatch short r.final q.counts ::
            (match r.signature with
             | some e => if wrong then [.signatureMismatch h r.number e.1 e.2 s1 s2] else []
             | none => [])) freed
        (r.final = false → s.job.state = .running → s.retireHead h = done) ∧
        (r.final = false → s.job.state = .stopping →
          s.retireHead h = jobClosed (left h .halted .stopCommand done)) ∧
        (r.final = true →
          s.retireHead h =
            jobClosed (State.post (.channelState h .done (some .finalDone) none 0 0 q.counts)
              { done with
                channels := s.channels.set h (
                  { s.channels.get h with state := .done, engage := false, lastStop := some .finalDone })
                ctu := { s.ctu with
                  feedEn := s.ctu.feedEn && allHeads.any (fun g => g != h && s.channelState g == .cutting) } }))) ∧
    (s.channelState h ≠ .cutting ∨ (s.queues.get h).inProgress = none → s.retireHead h = s)

/-- STYLUS WEAR: BAD_PARAM above head 3, HEAD_BUSY while the channel is not OFF, and otherwise W set and the sub-count
0, with the former W in the reply. -/
def Sys2Proof.Claims.StylusWearSetsWearOfIdleHead : Prop :=
  ∀ (tag : Half) (head hi lo : Byte) (s : State), s.inReset = false →
    (3 < head.toNat → exec (.stylusWear tag [head, hi, lo]) s = .next (answer 0x44 tag .badParam [] s)) ∧
    ∀ h : Head, head.toNat = h.val →
      (s.channelState h ≠ .off →
        exec (.stylusWear tag [head, hi, lo]) s = .next (answer 0x44 tag .headBusy [] s)) ∧
      (s.channelState h = .off →
        exec (.stylusWear tag [head, hi, lo]) s =
          .next (answer 0x44 tag .ok (be16 (s.channels.get h).wear)
            { s with channels := s.channels.set h (
              { s.channels.get h with wear := hi.toNat * 256 + lo.toNat, wearSub := 0 }) }))

/-- A head's ENGAGE line is asserted exactly while its channel is CALIBRATING, PRIMED, CUTTING or WAITING, at every
step. -/
def Obligations.EngageLineFollowsChannelState : Prop :=
  ∀ s t : State, s.EngageExact → step s = .next t → t.EngageExact

/-- The job and its channels stay coherent at every step: a job is live exactly while a channel is active, FEED_EN is
asserted exactly while one is CUTTING, the hold count stays within the limit, a channel is CALIBRATING exactly while
its calibration is in progress, and between two events it is CUTTING exactly with a track in progress; a head outside
the set is OFF, a head that has left holds no record, and only a CUTTING channel has a demand. -/
def Obligations.JobAndChannelsStayCoherent : Prop :=
  ∀ s t : State, s.QueuesShaped → s.JobCoherent → step s = .next t → t.JobCoherent

/-- A slot is BOUND only outside SETUP, and outside SETUP every slot the job uses is BOUND, at every step. -/
def Obligations.SlotsOfJobStayBound : Prop :=
  ∀ s t : State, s.store.Wf → s.BindingExact → step s = .next t → t.BindingExact

/-! ## Cut Monitor (R123 to R138) -/

namespace Sys2Proof.Claims

/-- The expected value of a cut stroke and the error of its sample (R129). -/
def errorOf (p : MonitorParams) (e : HistoryEntry) (v : Nat) : Int := (v : Int) - (e.word * p.gain / 4096 : Nat)

/-- The class of a paired stroke (R128, R129). -/
def classOf (p : MonitorParams) (e : HistoryEntry) (v : Nat) : StrokeClass :=
  if e.closed = true then (if p.dragThreshold < v then .drag else .good)
  else if v < p.liftThreshold then .lift
  else if (p.tolerance : Int) < errorOf p e v then .overcut
  else if (p.tolerance : Int) < - errorOf p e v then .undercut
  else .good

/-- A class that counts as a deviation (R130). -/
def deviates (k : StrokeClass) : Bool := k == .overcut || k == .undercut || k == .drag

/-- The fault a classified stroke raises, with the length of its run (R130, R131). -/
def faultOf (p : MonitorParams) (k : StrokeClass) (m : Monitor) : Option (StylusFault × Nat) :=
  if k = .lift ∧ p.liftLimit ≤ m.liftRun + 1 then some (.stylusLift, m.liftRun + 1)
  else if deviates k = true ∧ p.deviationLimit ≤ m.deviationRun + 1 then
    some (.stylusDeviation, m.deviationRun + 1)
  else none

/-- The part after a paired sample has been classified, before a fault it raises: the entry matched, the runs moved
(a run that reaches its limit is 0 again), the counters and the captured maximum stepped, and for a deviation stroke
the DEVIATION event (R127 to R130, R134). -/
def classifiedState (h : Head) (p : MonitorParams) (before : List HistoryEntry) (e : HistoryEntry)
    (after : List HistoryEntry) (v : Nat) (s : State) : State :=
  let m := s.monitors.get h
  let k := classOf p e v
  let f := faultOf p k m
  let c := s.rpt.heads.get h
  let noted : State :=
    { s with
      monitors := s.monitors.set h (
        { m with
          history := before ++ { e with matched := true } :: after, missingRun := 0
          liftRun := if k = .lift ∧ f = none then m.liftRun + 1 else 0
          deviationRun := if deviates k = true ∧ f = none then m.deviationRun + 1 else 0 })
      rpt := { s.rpt with heads := s.rpt.heads.set h (
        { c with
          cells := { c.cells with
            lift := if k = .lift then min 16777215 (c.cells.lift + 1) else c.cells.lift
            deviation := if deviates k then min 16777215 (c.cells.deviation + 1) else c.cells.deviation }
          maxError :=
            if e.closed = true ∨ v < p.liftThreshold then c.maxError
            else max c.maxError (errorOf p e v).natAbs }) } }
  if deviates k then
    noted.post (.deviation h e.tag k v
      (if k = .drag then none else some (e.word * p.gain / 4096, errorOf p e v)) (m.deviationRun + 1))
  else noted

/-- What a fault of a head does by the state of its channel and its policy (R132). -/
def actionOf (h : Head) (s : State) : FaultAction :=
  if s.channelState h = .cutting then
    (if (s.headEntry h).any (fun e => e.policy == .parkHead) then .parked else .aborted)
  else if s.channelState h = .calibrating then .calibrationFailed
  else .none

/-- A fault raised by a sample: the stylus-fault counter, STYLUS_FAULT, and then its action (R131 to R133). -/
def faultTaken (h : Head) (fault : StylusFault) (run : Nat) (tag : BitVec 8) (v : Nat) (s : State) : State :=
  let c := s.rpt.heads.get h
  let raised := State.post
    (.stylusFault h fault run tag (some v) (s.channelState h) (actionOf h s))
    { s with rpt := { s.rpt with heads := s.rpt.heads.set h ({ c with stylusFaults := c.stylusFaults + 1 }) } }
  match actionOf h s with
  | .none => raised
  | .parked => raised.leaveJob h .parked (faultCause fault)
  | .aborted => raised.abortJob (faultCause fault)
  | .calibrationFailed => raised.failCal h .fault ⟨none, none, some fault⟩

end Sys2Proof.Claims

/-- A monitor sample: late when the history of its head holds no entry of its tag, a duplicate when that entry is
matched, and otherwise paired and classified, with the fault that a run raises at its limit taken at the same event.
That the DEVIATION event of such a stroke carries the run that reached the limit is the model's reading (log entry
34). -/
def Obligations.SampleIsLateDuplicateOrClassified : Prop :=
  ∀ (h : Head) (value : BitVec 10) (tag : BitVec 8) (s : State), s.inReset = false →
    let m := s.monitors.get h
    let c := s.rpt.heads.get h
    ((∀ e ∈ m.history, e.tag ≠ tag) →
      exec (.monitorSample h value tag) s =
        .next (State.arbitrate { s with rpt := { s.rpt with heads := s.rpt.heads.set h (
          { c with cells := { c.cells with late := min 16777215 (c.cells.late + 1) } }) } })) ∧
    ∀ before e after, m.history = before ++ e :: after → e.tag = tag →
      (∀ x ∈ before, x.tag ≠ tag) → (∀ x ∈ after, x.tag ≠ tag) →
      (e.matched = true →
        exec (.monitorSample h value tag) s =
          .next (State.arbitrate { s with rpt := { s.rpt with heads := s.rpt.heads.set h (
            { c with cells := { c.cells with duplicate := min 16777215 (c.cells.duplicate + 1) } }) } })) ∧
      (e.matched = false → ∀ p, m.params = some p →
        let noted := classifiedState h p before e after value.toNat s
        exec (.monitorSample h value tag) s =
          .next (State.arbitrate
            (match faultOf p (classOf p e value.toNat) m with
             | none => noted
             | some f => faultTaken h f.1 f.2 tag value.toNat noted)))

/-- Every stroke history holds the latest strokes of its channel, at most sixteen, in the order of their tags, at every
step. -/
def Sys2Proof.Claims.HistoriesHoldLatestStrokes : Prop :=
  ∀ s t : State, s.HistoriesOrdered → step s = .next t → t.HistoriesOrdered

/-- A history of the latest strokes of a channel holds at most sixteen entries with pairwise distinct tags. -/
def Sys2Proof.Claims.HistoryTagsAreDistinct : Prop :=
  ∀ (s : State) (h : Head), s.HistoriesOrdered →
    (s.monitors.get h).history.length ≤ 16 ∧ ((s.monitors.get h).history.map (·.tag)).Nodup

/-! ## Test cut and head calibration (R139 to R156) -/

namespace Sys2Proof.Claims

/-- The parameters of a CALIBRATE (R182). -/
structure CalParams where
  head : Nat
  screen : Nat
  codeLo : Nat
  codeHi : Nat
  n : Nat
  wMin : Nat
  wMax : Nat
  agree : Nat
  timeout : Nat

/-- They lie in the ranges of their wires. -/
structure CalParams.Fits (p : CalParams) : Prop where
  bytes : p.head < 256 ∧ p.screen < 256 ∧ p.timeout < 256
  codes : p.codeLo < 65536 ∧ p.codeHi < 65536 ∧ p.n < 65536
  widths : p.wMin < 65536 ∧ p.wMax < 65536 ∧ p.agree < 65536

/-- Their bytes. -/
def CalParams.bytes (p : CalParams) : List Byte :=
  be8 p.head ++ be8 p.screen ++ be16 p.codeLo ++ be16 p.codeHi ++ be16 p.n ++ be16 p.wMin ++ be16 p.wMax ++
    be16 p.agree ++ be8 p.timeout

/-- Step 1 of R140 passes. -/
def CalParams.Good (p : CalParams) : Prop :=
  p.head ≤ 3 ∧ p.screen ≤ 36 ∧ p.codeHi ≤ 4095 ∧ p.codeLo < p.codeHi ∧ 1 ≤ p.n ∧ p.wMin ≤ p.wMax ∧
    p.agree ≤ 1000 ∧ 1 ≤ p.timeout

/-- Steps 2 to 9 of R140 for head h: the status and data of the first that fails. -/
def calRefused (p : CalParams) (h : Head) (s : State) : Option (Status × List Byte) :=
  let screen := s.store.slot p.screen
  let record := s.store.slot (32 + h.val)
  let cells := entryNat screen.entries 0
  if s.channelState h ≠ .off then some (.headBusy, [])
  else if s.lines.estopN = false then some (.emergency, [])
  else if s.ctu.settings = none ∨ s.ctu.resolved = none then some (.timing, [])
  else if s.withinHard = false then some (.speed, [])
  else if p.screen < 16 ∨ 23 < p.screen then some (.badParam, [])
  else if screen.state = .empty then some (.empty, [])
  else if screen.state = .committing then some (.busy, [])
  else if s.counts < 4 * cells then some (.geometry, [])
  else if cells / 2 < p.n then some (.badParam, [5])
  else if record.state = .empty then some (.empty, [])
  else if record.state = .committing then some (.busy, [])
  else none

end Sys2Proof.Claims

/-- CALIBRATE in SETUP with good parameters: refused by the first step of R140 that fails, or STARTED with the head's
proposal discarded, the parameters and working copies stored, the channel CALIBRATING with ENGAGE asserted, and the
monitor parameters loaded from the copy. -/
def Sys2Proof.Claims.CalibrateStartsFromWorkingCopies : Prop :=
  ∀ (tag : Half) (p : CalParams) (h : Head) (s : State), s.inReset = false → s.job.state = .setup →
    p.Fits → p.Good → p.head = h.val →
      let hc := s.headcal h
      let cells := entryNat (s.store.slot p.screen).entries 0
      (∀ status data, calRefused p h s = some (status, data) →
        exec (.calibrate tag p.bytes) s = .next (answer 0x40 tag status data s)) ∧
      (calRefused p h s = none →
        exec (.calibrate tag p.bytes) s =
          .next (answer 0x40 tag .started (be8 h.val ++ be16 cells)
            { s with
              cals := s.cals.set h
                { phase := .waitIndex
                    { codeLo := p.codeLo, codeHi := p.codeHi, cellsPerLevel := p.n, wMin := p.wMin
                      wMax := p.wMax, agreeTol := p.agree, timeout := p.timeout, cells := cells, headcal := hc }
                  lowWidth := none, highWidth := none, timer := none, proposal := none }
              channels := s.channels.set h { s.channels.get h with state := .calibrating, engage := true }
              monitors := s.monitors.set h { s.monitors.get h with
                params := some ⟨entryNat hc 6, entryNat hc 7, entryNat hc 8, entryNat hc 9, entryNat hc 10,
                  entryNat hc 11⟩ } }))

/-- CALIBRATE with a parameter out of range is refused with BAD_PARAM naming the first in the order of R182; that a pair
out of order names its second parameter is the model's choice (log entry 13). -/
def Sys2Proof.Claims.CalibrateRefusesBadParameter : Prop :=
  ∀ (tag : Half) (p : CalParams) (s : State), s.inReset = false → s.job.state = .setup → p.Fits →
    let no := fun n : Nat => exec (.calibrate tag p.bytes) s = .next (answer 0x40 tag .badParam (be8 n) s)
    (3 < p.head → no 1) ∧ (p.head ≤ 3 → 36 < p.screen → no 2) ∧
    (p.head ≤ 3 → p.screen ≤ 36 →
      (4095 < p.codeLo → no 3) ∧ (p.codeLo ≤ 4095 → 4095 < p.codeHi ∨ p.codeHi ≤ p.codeLo → no 4) ∧
      (p.codeLo < p.codeHi → p.codeHi ≤ 4095 →
        (p.n = 0 → no 5) ∧ (1 ≤ p.n → p.wMax < p.wMin → no 7) ∧
        (1 ≤ p.n → p.wMin ≤ p.wMax → 1000 < p.agree → no 8) ∧
        (1 ≤ p.n → p.wMin ≤ p.wMax → p.agree ≤ 1000 → p.timeout = 0 → no 9)))

namespace Sys2Proof.Claims

/-- A calibration of a head ends: its record returns to NONE with its parameters, copies and widths discarded and its
timer stopped, and its channel to OFF (R139). -/
def calEnded (h : Head) (s : State) : State :=
  { s with
    cals := s.cals.set h
      { phase := .none, lowWidth := none, highWidth := none, timer := none
        proposal := (s.cals.get h).proposal }
    channels := s.channels.set h { s.channels.get h with state := .off, engage := false } }

/-- A calibration of a head fails: CAL_FAILED with the phase, the widths held and, in phase CUT, the cells emitted, and
then the end of the calibration (R149). -/
def calFailed (h : Head) (cause : CalCause) (detail : CalDetail) (s : State) : State :=
  let c := s.cals.get h
  let cells :=
    match c.phase with
    | .cut _ => some (s.channels.get h).cellIndex
    | _ => none
  calEnded h (s.post (.calFailed h cause c.phase c.lowWidth c.highWidth cells detail))

end Sys2Proof.Claims

namespace Sys2Proof.Claims

/-- A forward count causes a stroke at a head (R74, R80). -/
def strikes (h : Head) (s : State) : Prop :=
  ∃ c, cutsCells h c s ∧ (s.channels.get h).cellIndex < c ∧ s.counts ≤ (s.channels.get h).accumulator + c

/-- What a MONITOR_LOST does after the stroke that raised it has been taken whole (R132, R133). -/
def lostTaken (h : Head) (action : FaultAction) (s : State) : State :=
  match action with
  | .none => s
  | .parked => jobClosed (left h .parked .monitorLost s)
  | .aborted => s.abortJob .monitorLost
  | .calibrationFailed => calFailed h .fault ⟨none, none, some .monitorLost⟩ s

/-- A forward count at one head, with what a MONITOR_LOST it raises does there. -/
def countTaken (angle : Nat) (s : State) (h : Head) : State :=
  if s.countLoses h = true then lostTaken h (actionOf h s) (s.countHead angle h) else s.countHead angle h

/-- The same with an abort left for the end of the count. -/
def countKept (angle : Nat) (s : State) (h : Head) : State :=
  if s.countLoses h = true ∧ actionOf h s ≠ .aborted then lostTaken h (actionOf h s) (s.countHead angle h)
  else s.countHead angle h

end Sys2Proof.Claims

/-- A forward count loses the monitor of a head exactly when it causes a stroke that pushes an unmatched entry out of a
full history as the 64th of a run. -/
def Sys2Proof.Claims.MonitorIsLostAtSixtyFourthMissingStroke : Prop :=
  ∀ (h : Head) (s : State),
    s.countLoses h = true ↔
      strikes h s ∧ 16 ≤ (s.monitors.get h).history.length ∧
        (∃ e, (s.monitors.get h).history.head? = some e ∧ e.matched = false) ∧
        64 ≤ (s.monitors.get h).missingRun + 1

/-- A count is taken head by head in ascending order, and a MONITOR_LOST acts at its head after the stroke: under
PARK_HEAD the channel is parked, and a calibration fails with FAULT. Under ABORT_JOB the job aborts either there, before
the strokes of the later heads, or after them all: which, is the free value of log entry 8. -/
def Sys2Proof.Claims.LostMonitorActsAfterItsStroke : Prop :=
  ∀ (angle : Nat) (s : State),
    ((∀ h : Head, s.countLoses h = true → actionOf h s ≠ .aborted) →
      State.countAll angle s = allHeads.foldl (countTaken angle) s) ∧
    ((∃ h : Head, s.countLoses h = true ∧ actionOf h s = .aborted) →
      let drawn : State := { s with choices := s.choices + 1 }
      State.countAll angle s = allHeads.foldl (countTaken angle) drawn ∨
        State.countAll angle s = (allHeads.foldl (countKept angle) drawn).abortJob .monitorLost)

/-- CAL CANCEL fails a calibration in progress with CANCELLED and is refused with STATE and the channel state without
one; the measurement timer fails it with TIMEOUT in AWAIT_MEASURE; an event that fails every calibration in progress
fails each of them in ascending head order. -/
def Sys2Proof.Claims.CalibrationFailureReturnsHeadToOff : Prop :=
  ∀ (h : Head) (s : State),
    (∀ cause detail, s.failCal h cause detail = calFailed h cause detail s) ∧
    (∀ cause, s.failAllCals cause =
      allHeads.foldl (fun t g => if s.calibrating g then calFailed g cause ⟨none, none, none⟩ t else t) s) ∧
    (s.inReset = false →
      (∀ tag (head : Byte), 3 < head.toNat →
        exec (.calCancel tag [head]) s = .next (answer 0x43 tag .badParam [] s)) ∧
      (∀ tag (head : Byte), head.toNat = h.val → (s.cals.get h).phase = .none →
        exec (.calCancel tag [head]) s =
          .next (answer 0x43 tag .state (be8 (channelStateCode (s.channelState h))) s)) ∧
      (∀ tag (head : Byte), head.toNat = h.val → (s.cals.get h).phase ≠ .none →
        exec (.calCancel tag [head]) s =
          .next (answer 0x43 tag .ok [] (calFailed h .cancelled ⟨none, none, none⟩ s))) ∧
      (∀ u n, (s.cals.get h).phase = .awaitMeasure u → (s.cals.get h).timer = some n →
        exec (.measurementTimeout h) s =
          .next (State.arbitrate (calFailed h .timeout ⟨none, none, none⟩ s))))

/-- The phases of a calibration at a boundary handed to it: WAIT_INDEX starts the cut with the cell index at 0, the
accumulator at E/4 and the runs at 0; CUT fails with SHORT below C cells, and otherwise posts CAL_CUT_DONE and waits for
the measurements with the timer running; AWAIT_MEASURE is not moved. -/
def Sys2Proof.Claims.BoundaryMovesCalibrationPhase : Prop :=
  ∀ (h : Head) (s : State),
    (∀ u, (s.cals.get h).phase = .waitIndex u →
      s.calBoundary h =
        { s with
          cals := s.cals.set h { s.cals.get h with phase := .cut u }
          channels := s.channels.set h { s.channels.get h with cellIndex := 0, accumulator := s.counts / 4 }
          monitors := s.monitors.set h
            { s.monitors.get h with liftRun := 0, deviationRun := 0, missingRun := 0 } }) ∧
    (∀ u, (s.cals.get h).phase = .cut u → (s.channels.get h).cellIndex < u.cells →
      s.calBoundary h = calFailed h .short ⟨none, none, none⟩ s) ∧
    (∀ u, (s.cals.get h).phase = .cut u → u.cells ≤ (s.channels.get h).cellIndex →
      s.calBoundary h =
        let t := s.post (.calCutDone h (s.channels.get h).cellIndex u.codeLo u.codeHi u.cellsPerLevel u.timeout)
        { t with cals := t.cals.set h { t.cals.get h with phase := .awaitMeasure u, timer := some u.timeout } }) ∧
    (∀ u, (s.cals.get h).phase = .awaitMeasure u → s.calBoundary h = s) ∧
    ((s.cals.get h).phase = .none → s.calBoundary h = s)

/-- The fit (R148): the gain is the floored quotient of the code and depth spans times 1024 and the base carries
depth_lo back to code_lo exactly; it fails with FIT_ORDER when the depths do not rise and with FIT_RANGE when gain or
base is out of range; a fitted pair carries depth_hi to at most code_hi. -/
def Obligations.FitCarriesLowDepthToLowCode : Prop :=
  ∀ (u : CalSetup) (lo hi : Nat), u.codeLo < u.codeHi →
    let gain := (u.codeHi - u.codeLo) * 1024 / (hi - lo)
    let base : Int := (u.codeLo : Int) - ((lo * gain + 512) / 1024 : Nat)
    (hi ≤ lo → fit u lo hi = .failed .fitOrder ⟨some (lo, hi), none, none⟩) ∧
    (lo < hi → gain < 256 ∨ 16383 < gain →
      fit u lo hi = .failed .fitRange ⟨some (lo, hi), some (.gain gain), none⟩) ∧
    (lo < hi → 256 ≤ gain → gain ≤ 16383 → base < -4096 ∨ 4095 < base →
      fit u lo hi = .failed .fitRange ⟨some (lo, hi), some (.base base), none⟩) ∧
    (lo < hi → 256 ≤ gain → gain ≤ 16383 → -4096 ≤ base → base ≤ 4095 →
      fit u lo hi = .fitted gain base ∧ driveCode gain base lo = u.codeLo ∧ driveCode gain base hi ≤ u.codeHi)

/-- CAL MEASURE: the checks of R146 in order; an accepted measure stores the mean of its readings as the level width and
answers it with its depth, and the measure that supplies the second level makes the fit at the same event: a proposal
with CAL_RESULT and the end of the calibration, or its failure. -/
def Obligations.CalMeasureStoresLevelAndFits : Prop :=
  ∀ (tag : Half) (head level a1 a0 b1 b0 : Byte) (s : State), s.inReset = false →
    let params := [head, level, a1, a0, b1, b0]
    let wa := a1.toNat * 256 + a0.toNat
    let wb := b1.toNat * 256 + b0.toNat
    (3 < head.toNat ∨ 1 < level.toNat →
      exec (.calMeasure tag params) s = .next (answer 0x41 tag .badParam [] s)) ∧
    ∀ h : Head, head.toNat = h.val → level.toNat ≤ 1 →
      ((∀ u, (s.cals.get h).phase ≠ .awaitMeasure u) →
        exec (.calMeasure tag params) s = .next (answer 0x41 tag .notAwaiting [] s)) ∧
      ∀ u, (s.cals.get h).phase = .awaitMeasure u →
        let outA := wa < u.wMin ∨ u.wMax < wa
        let outB := wb < u.wMin ∨ u.wMax < wb
        let d := ((wa : Int) - (wb : Int)).natAbs
        (outA ∨ outB →
          exec (.calMeasure tag params) s =
            .next (answer 0x41 tag .outOfWindow
              (be8 ((if outA then 1 else 0) + (if outB then 2 else 0))) s)) ∧
        (¬ outA → ¬ outB → u.agreeTol < d →
          exec (.calMeasure tag params) s = .next (answer 0x41 tag .disagree (be16 d) s)) ∧
        (¬ outA → ¬ outB → d ≤ u.agreeTol →
          let w := (wa + wb) / 2
          let depth := fun x : Nat => x * hcFactor u.headcal / 4096
          let c := s.cals.get h
          let low := if level.toNat = 0 then some w else c.lowWidth
          let high := if level.toNat = 1 then some w else c.highWidth
          let stored : State := { s with cals := s.cals.set h { c with lowWidth := low, highWidth := high } }
          exec (.calMeasure tag params) s =
            .next (answer 0x41 tag .ok (be8 level.toNat ++ be16 w ++ be16 (depth w))
              (match low, high with
               | some l, some g =>
                 (match fit u (depth l) (depth g) with
                  | .failed cause detail => calFailed h cause detail stored
                  | .fitted gain base =>
                    calEnded h (State.post
                      (.calResult h l g (depth l) (depth g) gain base (hcGain u.headcal).toNat
                        (hcBase u.headcal))
                      { stored with cals := stored.cals.set h (
                          { stored.cals.get h with proposal := some ⟨gain, base⟩ }) }))
               | _, _ => stored)))

/-! ## Drive power budget (R157 to R169) -/

/-- The shedding order: the removed heads are those of the set that come first by priority number and then by head
number, each with its rank and the sum left after it; the sum exceeds the budget before each removal and does not after
the last. -/
def Sys2Proof.Claims.SheddingRemovesLowestPriorityFirst : Prop :=
  ∀ (priority demand : Head → Nat) (members : Head → Bool) (budget : Nat),
    let sheds := shedOrder priority demand members budget
    let total := sumDemands demand (allHeads.filter members)
    (∀ h : Head, isShed sheds h = true → members h = true) ∧
    (∀ g h : Head, isShed sheds g = true → members h = true → isShed sheds h = false →
      priority h < priority g ∨ (priority h = priority g ∧ h < g)) ∧
    (sheds.map Shed.head).Pairwise
      (fun g h => priority h < priority g ∨ (priority h = priority g ∧ h < g)) ∧
    (∀ i (hi : i < sheds.length),
      sheds[i].rank = i + 1 ∧ sheds[i].demand = demand sheds[i].head ∧
        sheds[i].left + ((sheds.take (i + 1)).map Shed.demand).sum = total ∧
        budget < sheds[i].left + sheds[i].demand) ∧
    sumDemands demand (allHeads.filter (fun h => members h && !isShed sheds h)) ≤ budget

/-- The demand of a track is the idle power and the mean's share of the power span, at most the head's worst case
(R159). -/
def Sys2Proof.Claims.TrackDemandIsAtMostWorstCase : Prop :=
  ∀ (hc : List Entry) (mean : Nat), mean ≤ 1000 →
    trackDemand hc mean = hcIdlePower hc + mean * hcPowerSpan hc / 1000 ∧
      trackDemand hc mean ≤ worstDemand hc ∧ trackDemand hc 1000 = worstDemand hc ∧
      trackDemand hc 0 = hcIdlePower hc

namespace Sys2Proof.Claims

/-- The channels of a shedding result shed in ascending head order: SHED with the head's place in the shedding order,
then its departure with BUDGET_SHED and CHANNEL_STATE, and the end of the job when none stays active (R164). -/
def shedsTaken (occasion : ShedOccasion) (budget before : Nat) (sheds : List Shed) (s : State) : State :=
  allHeads.foldl (fun t h =>
    match sheds.find? (fun x => x.head == h) with
    | none => t
    | some x =>
      jobClosed (left h .parked .budgetShed
        (t.post (.shed h (t.priority h) x.demand occasion t.dbu.bank budget before x.rank x.left)))) s

/-- Every active channel started on its queue-head track: CUTTING from cell 0 and the start of R73, with the track's
demand, its record's sums at 0 and the head's runs at 0; FEED_EN says whether one is CUTTING, and the hold count is 0
(R40, R63, R110, R160). -/
def tracksStarted (s : State) : State :=
  { s with
    channels := s.channels.mapIdx (fun h c =>
      match s.active h, headTrack h s with
      | true, some r =>
        { c with
          state := .cutting, engage := true, cellIndex := 0
          accumulator := s.counts / 4 + (if s.jobHalf = true ∧ r.number % 2 = 1 then s.counts / 2 else 0) }
      | _, _ => c)
    queues := s.queues.mapIdx (fun h q =>
      match s.active h, q.records with
      | true, r :: rest => { q with records := { r with state := .cutting r.mean 0 0 } :: rest }
      | _, _ => q)
    monitors := s.monitors.mapIdx (fun h m =>
      if s.active h then { m with liftRun := 0, deviationRun := 0, missingRun := 0 } else m)
    dbu := { s.dbu with demand := s.dbu.demand.mapIdx (fun h d =>
      match s.active h, headTrack h s with
      | true, some r => hcIdlePower (s.headcal h) + r.mean * hcPowerSpan (s.headcal h) / 1000
      | _, _ => d) }
    ctu := { s.ctu with feedEn := allHeads.any (fun h => s.active h), holdCount := 0 } }

end Sys2Proof.Claims

/-- A GO sheds the channels of the shedding order over the demands of the tracks about to start, each with its SHED and
CHANNEL_STATE events, and then starts the tracks of the channels that stay active. -/
def Sys2Proof.Claims.GoReportsShedsAndStartsTheRest : Prop :=
  ∀ s : State, s.granted = true →
    let demand := fun h : Head =>
      match headTrack h s with
      | some r => hcIdlePower (s.headcal h) + r.mean * hcPowerSpan (s.headcal h) / 1000
      | none => 0
    let budget := s.budgetOf s.dbu.bank
    s.go =
      tracksStarted (shedsTaken .go budget (sumDemands demand (allHeads.filter (fun h => s.active h)))
        (shedOrder (fun h => s.priority h) demand (fun h => s.active h) budget) s)

/-- A bank change: the bank is the new value of the lines, the candidates are recomputed over the active channels it
does not shed, BANK_CHANGE is posted, and then every channel of the shed set, and no other, is shed with its SHED and
CHANNEL_STATE events and PARKED with BUDGET_SHED in the middle of its revolution, which may end the job. A value the
lines already have is no change (log entry 5). -/
def Obligations.BankChangeShedsCuttingChannels : Prop :=
  ∀ (bank : BitVec 3) (s : State), s.inReset = false →
    let budget := s.budgetOf bank
    let track := fun h : Head => s.channelState h == .cutting && (s.queues.get h).inProgress.isSome
    let sheds := shedOrder (fun h => s.priority h) s.dbu.demand.get track budget
    let candidates : HeadSet := PerHead.ofFn (isShed (shedOrder (fun h => s.priority h)
      (fun h => hcIdlePower (s.headcal h) + hcPowerSpan (s.headcal h))
      (fun h => s.active h && !isShed sheds h) budget))
    let noted := State.post
      (.bankChange s.dbu.bank bank budget (sumDemands s.dbu.demand.get allHeads)
        (PerHead.ofFn (isShed sheds)) candidates)
      { s with
        lines := { s.lines with ps := bank }
        dbu := { s.dbu with bank := bank, candidates := candidates } }
    let t := State.arbitrate
      (shedsTaken .bankChange budget (sumDemands s.dbu.demand.get (allHeads.filter track)) sheds noted)
    (bank = s.lines.ps → exec (.bankChange bank) s = .next s) ∧
    (bank ≠ s.lines.ps →
      exec (.bankChange bank) s = .next t ∧ (sheds = [] → t = noted.arbitrate) ∧
        t.dbu.bank = bank ∧ t.dbu.candidates = candidates ∧
        (∀ h : Head, isShed sheds h = true →
          t.channels.get h =
            { s.channels.get h with state := .parked, engage := false, lastStop := some .budgetShed } ∧
          (t.queues.get h).records = [] ∧ t.dbu.demand.get h = 0) ∧
        (∀ h : Head, isShed sheds h = false →
          t.channels.get h = s.channels.get h ∧ t.queues.get h = s.queues.get h ∧
            t.dbu.demand.get h = s.dbu.demand.get h) ∧
        t.store = s.store ∧ t.ctu.feedEn = (s.ctu.feedEn && (sheds.isEmpty || t.anyCutting)))

/-- While the part is held in full reset the job state is SETUP, at every step. -/
def Sys2Proof.Claims.HeldResetKeepsJobInSetup : Prop :=
  ∀ s t : State, s.HeldClear → step s = .next t → t.HeldClear

/-- The summed demand never exceeds the budget of the selected bank, at every step. -/
def Sys2Proof.Claims.SummedDemandStaysWithinBudget : Prop :=
  ∀ s t : State, s.store.Wf → s.QueuesShaped → s.JobCoherent → s.BindingExact → s.HeldClear → s.WithinBudget →
    step s = .next t → t.WithinBudget

/-! ## Notices, snapshots and counters (R197 to R209) -/

namespace Sys2Proof.Claims

/-- The skip of R199: whether it lets an event on. -/
def letOn (e : Event) (s : State) : Prop :=
  match e with
  | .trackDone h _ _ _ _ signed isMatch short final _ =>
    final = true ∨ short = true ∨ (signed = true ∧ isMatch = false) ∨
      (s.rpt.skips.get h).trackDone + 1 = s.rpt.skipN
  | .deviation h _ _ _ _ _ => (s.rpt.skips.get h).deviation + 1 = s.rpt.skipM
  | _ => True

end Sys2Proof.Claims

/-- A posted event sets the sticky flag of its kind; its notice is sent exactly when the skip lets it on and the mask
enables its kind; a sent notice is appended while fewer than 32 wait and is otherwise discarded with NOTICE_LOST; the
frame on the line, the replies and every block outside the link and the Report Unit are untouched. -/
def Sys2Proof.Claims.EventIsFlaggedAndSentOrPassedOver : Prop :=
  ∀ (e : Event) (s : State),
    let t := s.post e
    let kind := eventKind e
    let sent := letOn e s ∧ s.rpt.mask.getLsbD (kind - 1) = true
    1 ≤ kind ∧ kind ≤ 19 ∧
    (∀ i, i < 19 → t.rpt.kindFlags.getLsbD i = (s.rpt.kindFlags.getLsbD i || i == kind - 1)) ∧
    (sent → s.fli.notices.length < 32 →
      t.fli = { s.fli with notices := s.fli.notices ++ [noticeFrame e] } ∧ t.rpt.noticeLost = s.rpt.noticeLost) ∧
    (sent → 32 ≤ s.fli.notices.length → t.fli = s.fli ∧ t.rpt.noticeLost = true) ∧
    (¬ sent → t.fli = s.fli ∧ t.rpt.noticeLost = s.rpt.noticeLost) ∧
    t = { s with
      fli := t.fli
      rpt := { s.rpt with
        kindFlags := t.rpt.kindFlags, noticeLost := t.rpt.noticeLost, skips := t.rpt.skips } }

/-- The skip counters: an ordinary TRACK_DONE and every DEVIATION step their head's counter, which is 0 again when it
reaches its setting; an event sent always, and every event of another kind, leaves them. -/
def Sys2Proof.Claims.SkipCountersCountOrdinaryEvents : Prop :=
  ∀ (h : Head) (track cells s1 s2 : Nat) (signed isMatch short final : Bool) (n : Counts) (tag : BitVec 8)
    (k : StrokeClass) (v run : Nat) (depth : Option (Nat × Int)) (s : State),
    let c := s.rpt.skips.get h
    ((final = true ∨ short = true ∨ (signed = true ∧ isMatch = false)) →
      (s.post (.trackDone h track cells s1 s2 signed isMatch short final n)).rpt.skips = s.rpt.skips) ∧
    (final = false → short = false → (signed = false ∨ isMatch = true) →
      (s.post (.trackDone h track cells s1 s2 signed isMatch short final n)).rpt.skips =
        s.rpt.skips.set h
          { c with trackDone := if c.trackDone + 1 = s.rpt.skipN then 0 else c.trackDone + 1 }) ∧
    (s.post (.deviation h tag k v depth run)).rpt.skips =
      s.rpt.skips.set h
        { c with deviation := if c.deviation + 1 = s.rpt.skipM then 0 else c.deviation + 1 } ∧
    (∀ e : Event, eventKind e ≠ 0x03 → eventKind e ≠ 0x0d → (s.post e).rpt.skips = s.rpt.skips)

/-- NOTICE MASK and NOTICE SKIP: BAD_PARAM naming the parameter, or the mask replaced whole, or both settings replaced
with every skip counter at 0; the reply carries the values in force before. -/
def Sys2Proof.Claims.NoticeSettingsAreReplacedWhole : Prop :=
  ∀ (tag : Half) (s : State), s.inReset = false →
    (∀ m : Nat, m < 4294967296 →
      (524288 ≤ m → exec (.noticeMask tag (be32 m)) s = .next (answer 0x50 tag .badParam [1] s)) ∧
      (m < 524288 →
        exec (.noticeMask tag (be32 m)) s =
          .next (answer 0x50 tag .ok (be32 s.rpt.mask.toNat)
            { s with rpt := { s.rpt with mask := BitVec.ofNat 32 m } }))) ∧
    (∀ n m : Byte,
      (n.toNat < 1 ∨ 16 < n.toNat → exec (.noticeSkip tag [n, m]) s = .next (answer 0x51 tag .badParam [1] s)) ∧
      (1 ≤ n.toNat → n.toNat ≤ 16 → m.toNat = 0 →
        exec (.noticeSkip tag [n, m]) s = .next (answer 0x51 tag .badParam [2] s)) ∧
      (1 ≤ n.toNat → n.toNat ≤ 16 → 1 ≤ m.toNat →
        exec (.noticeSkip tag [n, m]) s =
          .next (answer 0x51 tag .ok (be8 s.rpt.skipN ++ be8 s.rpt.skipM)
            { s with rpt := { s.rpt with
                skipN := n.toNat, skipM := m.toNat, skips := PerHead.const ⟨0, 0⟩ } })))

/-- COUNTERS READ changes nothing and COUNTERS CLEAR clears the head's five 8-bit counters and captured maximum; both
answer BAD_PARAM above head 3, and otherwise the values of R205 in its order. -/
def Sys2Proof.Claims.CountersAreReadAndCleared : Prop :=
  ∀ (tag : Half) (head : Byte) (s : State), s.inReset = false →
    (3 < head.toNat →
      exec (.countersRead tag [head]) s = .next (answer 0x52 tag .badParam [] s) ∧
      exec (.countersClear tag [head]) s = .next (answer 0x53 tag .badParam [] s)) ∧
    ∀ h : Head, head.toNat = h.val →
      let c := s.rpt.heads.get h
      let n := c.cells
      let five := [c.shortTracks, c.mismatches, c.refusedParts, c.toneClamped, c.stylusFaults]
      exec (.countersRead tag [head]) s =
        .next (answer 0x52 tag .ok
          ([head] ++
            [n.closed, n.lowClamp, n.highClamp, n.codeClamp, n.lift, n.deviation, n.late, n.missing,
              n.duplicate].flatMap be24 ++ five ++
            (match (s.channels.get h).lastStop with
             | none => [0]
             | some cause => be8 (stopCauseCode cause)) ++
            be16 c.maxError ++ be16 (s.channels.get h).wear) s) ∧
      exec (.countersClear tag [head]) s =
        .next (answer 0x53 tag .ok (five ++ be16 c.maxError)
          { s with rpt := { s.rpt with heads := s.rpt.heads.set h (
            { cells := n, shortTracks := 0, mismatches := 0, refusedParts := 0, toneClamped := 0
              stylusFaults := 0, maxError := 0 }) } })

namespace Sys2Proof.Claims

/-- The items of one head in the capture of R202. -/
def headCapture (s : State) (h : Head) : List Byte :=
  let c := s.channels.get h
  let q := s.queues.get h
  be8 (channelStateCode c.state) ++
    (match c.lastStop with
     | none => [0]
     | some cause => be8 (stopCauseCode cause)) ++
    be8 q.counts.filling ++ be8 q.counts.complete ++ be8 q.counts.cutting ++
    be16 q.expected ++ be16 q.start ++ yes q.finalSeen ++
    maybe 5 (q.lastRefusal.map (fun r => be8 (refusalCode r.reason) ++ be16 r.track ++ be16 r.offset)) ++
    be8 (calPhaseCode (s.cals.get h).phase) ++ yes (s.cals.get h).proposal.isSome

/-- The capture of R202, item by item in its order. -/
def capture (s : State) : List Byte :=
  be8 (jobStateCode s.job.state) ++
    (match s.job.record with
     | some r => be16 r.tag
     | none => [0, 0]) ++
    maybe 1 (s.job.result.map (fun r => be8 (jobResultCode r))) ++
    maybe 1 (s.job.abortCause.map (fun c => be8 (stopCauseCode c))) ++
    yes s.ctu.settings.isSome ++
    (match s.ctu.resolved with
     | some .line => [0]
     | some .count => [1]
     | none => [0xff]) ++
    be32 s.ctu.period ++ yes s.ctu.periodValid ++ be32 s.rpt.maxDeviation ++ be8 s.ctu.holdCount ++
    be16 s.rpt.holdTotal ++ [s.rpt.slips] ++ [s.rpt.reverses] ++
    yes s.lines.estopN ++ yes s.lines.feedFault ++ yes s.ctu.feedEn ++ be8 s.dbu.bank.toNat ++
    be8 (s.dbu.candidates.h0.toNat + 2 * s.dbu.candidates.h1.toNat + 4 * s.dbu.candidates.h2.toNat +
      8 * s.dbu.candidates.h3.toNat) ++
    be8 (s.store.owner.getD 0xff) ++ be8 (s.store.commit.getD 0xff) ++
    headCapture s 0 ++ headCapture s 1 ++ headCapture s 2 ++ headCapture s 3 ++
    [s.rpt.crcErrors, s.rpt.lengthErrors, s.rpt.kindErrors] ++ be32 s.rpt.mask.toNat ++
    be8 s.rpt.skipN ++ be8 s.rpt.skipM ++
    (List.range 19).flatMap (fun i => yes (s.rpt.kindFlags.getLsbD i)) ++
    yes s.rpt.noticeLost ++ yes s.rpt.replyLost ++ yes s.rpt.linkError ++ yes s.rpt.fullReset

end Sys2Proof.Claims

/-- STATUS SNAPSHOT answers the capture of R202 and clears all twenty-three sticky flags at the same event, and nothing
else. The presence bytes of result and cause and the order of the last four flags are the model's reading (log entries
11 and 12). -/
def Sys2Proof.Claims.SnapshotCapturesPartAndClearsFlags : Prop :=
  ∀ (tag : Half) (s : State), s.inReset = false →
    exec (.statusSnapshot tag []) s =
      .next (answer 0x02 tag .ok (capture s)
        { s with rpt := { s.rpt with
            kindFlags := 0, noticeLost := false, replyLost := false, linkError := false, fullReset := false } })

/-! ## Codes, frames and notice bodies (R177, R178, R183, R197) -/

/-- The codes of statuses and job states (R177), and of the enumerated quantities of replies, notices and the snapshot
(R178), are those of the manual's tables. -/
def Sys2Proof.Claims.CodesAreTheManuals : Prop :=
  [Status.ok, .okClamped, .started, .state, .busy, .badParam, .length, .unknown].map statusCode =
    [0x00, 0x01, 0x02, 0x10, 0x11, 0x12, 0x13, 0x14] ∧
  [Status.bound, .empty, .noStaging, .stagingBusy, .storeBusy, .gap, .invalid, .noCursor].map statusCode =
    [0x20, 0x21, 0x22, 0x23, 0x24, 0x25, 0x26, 0x27] ∧
  [Status.headBusy, .emergency, .timing, .speed, .geometry, .budget, .staging].map statusCode =
    [0x30, 0x31, 0x32, 0x33, 0x34, 0x35, 0x36] ∧
  [Status.notAwaiting, .outOfWindow, .disagree, .noneFilling].map statusCode = [0x40, 0x41, 0x42, 0x43] ∧
  [JobState.setup, .armed, .running, .stopping, .ended, .aborted].map jobStateCode = [0, 1, 2, 3, 4, 5] ∧
  [JobResult.complete, .partialEnd, .stopped].map jobResultCode = [1, 2, 3] ∧
  [StopCause.finalDone, .stopCommand, .abortCommand, .parkCommand, .emergency, .budgetShed, .feedFault, .stylusLift,
    .stylusDeviation, .monitorLost, .starved, .speed, .encoderSlip, .encoderReverse, .cylinderStall].map
      stopCauseCode = [0x01, 0x02, 0x03, 0x04, 0x05, 0x06, 0x07, 0x08, 0x09, 0x0a, 0x0b, 0x0c, 0x0d, 0x0e, 0x0f] ∧
  [StylusFault.stylusLift, .stylusDeviation, .monitorLost].map faultCause =
    [.stylusLift, .stylusDeviation, .monitorLost] ∧
  [ChannelState.off, .calibrating, .primed, .cutting, .waiting, .done, .parked, .halted].map channelStateCode =
    [0, 1, 2, 3, 4, 5, 6, 7] ∧
  [SlotState.empty, .committing, .valid, .bound].map slotStateCode = [0, 1, 2, 3] ∧
  [RefusalReason.length, .notEngaged, .tag, .order, .duplicate, .gap, .badField, .pastFinal, .sequence,
    .queueFull].map refusalCode = [0x01, 0x02, 0x03, 0x04, 0x05, 0x06, 0x07, 0x08, 0x09, 0x0a] ∧
  [StrokeClass.good, .lift, .overcut, .undercut, .drag].map strokeClassCode = [0, 1, 2, 3, 4] ∧
  [FaultAction.none, .parked, .aborted, .calibrationFailed].map faultActionCode = [0, 1, 2, 3] ∧
  [ShedOccasion.go, .bankChange].map occasionCode = [0, 1] ∧
  (∀ u : CalSetup, [CalPhase.none, .waitIndex u, .cut u, .awaitMeasure u].map calPhaseCode = [0, 1, 2, 3]) ∧
  [CalCause.short, .fitOrder, .fitRange, .timeout, .cancelled, .emergency, .cylinderStall, .encoderReverse,
    .encoderSlip, .fault].map calCauseCode = [0x01, 0x02, 0x03, 0x04, 0x05, 0x06, 0x07, 0x08, 0x09, 0x0a]

namespace Sys2Proof.Claims

/-- A frame of the return link (R174, R177). -/
def frameOf (kind head : Byte) (payload : List Byte) : ReturnFrame :=
  ⟨kind, head, payload, crc (kind :: head :: (be16 payload.length ++ payload))⟩

/-- A set of heads: bit h for head h (R197). -/
def setByte (p : HeadSet) : List Byte := be8 (p.h0.toNat + 2 * p.h1.toNat + 4 * p.h2.toNat + 8 * p.h3.toNat)

/-- The queue counts: FILLING, COMPLETE, CUTTING (R50). -/
def queueBytes (c : Counts) : List Byte := be8 c.filling ++ be8 c.complete ++ be8 c.cutting

/-- The code of an event's kind (R177). -/
def kindOf : Event → Byte
  | .jobState .. => 0x01
  | .channelState .. => 0x02
  | .trackDone .. => 0x03
  | .partRefused .. => 0x04
  | .signatureMismatch .. => 0x05
  | .hold .. => 0x06
  | .speed .. => 0x07
  | .slip .. => 0x08
  | .stall .. => 0x09
  | .encoderReverse .. => 0x0a
  | .shed .. => 0x0b
  | .bankChange .. => 0x0c
  | .deviation .. => 0x0d
  | .stylusFault .. => 0x0e
  | .commitDone .. => 0x0f
  | .calCutDone .. => 0x10
  | .calResult .. => 0x11
  | .calFailed .. => 0x12
  | .estop _ => 0x13

/-- The head an event's notice concerns (R197). -/
def headOfEvent : Event → Option Head
  | .channelState h .. => some h
  | .trackDone h .. => some h
  | .partRefused _ h .. => h
  | .signatureMismatch h .. => some h
  | .shed h .. => some h
  | .deviation h .. => some h
  | .stylusFault h .. => some h
  | .calCutDone h .. => some h
  | .calResult h .. => some h
  | .calFailed h .. => some h
  | _ => none

/-- The contents of an event's notice: the items its owning rule lists, in that order, each in the width of R178. -/
def bodyOf : Event → List Byte
  | .jobState tag st result cause =>  -- R97
    be16 tag ++ be8 (jobStateCode st) ++ maybe 1 (result.map (fun x => be8 (jobResultCode x))) ++
      maybe 1 (cause.map (fun x => be8 (stopCauseCode x)))
  | .channelState h st cause track complete filling counts =>  -- R117
    be8 h.val ++ be8 (channelStateCode st) ++ maybe 1 (cause.map (fun x => be8 (stopCauseCode x))) ++
      maybe 9 (track.map (fun a =>
        be16 a.number ++ be16 a.cells ++ be16 a.sum1 ++ be16 a.sum2 ++ yes a.short)) ++
      be8 complete ++ be8 filling ++ queueBytes counts
  | .trackDone h track cells s1 s2 signed isMatch short final counts =>  -- R111
    be8 h.val ++ be16 track ++ be16 cells ++ be16 s1 ++ be16 s2 ++ yes signed ++ yes isMatch ++ yes short ++
      yes final ++ queueBytes counts
  | .partRefused headByte _ track offset reason resumeTrack resumeOffset =>  -- R51
    headByte :: (be16 track ++ be16 offset ++ be8 (refusalCode reason) ++ be16 resumeTrack ++ be16 resumeOffset)
  | .signatureMismatch h track e1 e2 s1 s2 =>  -- R111
    be8 h.val ++ be16 track ++ be16 e1 ++ be16 e2 ++ be16 s1 ++ be16 s2
  | .hold data speed lacking count =>  -- R41
    be8 ((if data then 1 else 0) + (if speed then 2 else 0)) ++ setByte lacking ++ be8 count
  | .speed period deviation hard => be32 period ++ be32 deviation ++ yes hard  -- R37
  | .slip x => beInt32 x  -- R33
  | .stall timeout => be16 timeout  -- R38
  | .encoderReverse counter angle => counter :: be32 angle  -- R34
  | .shed h priority demand occasion bank budget before rank after =>  -- R164
    be8 h.val ++ be8 priority ++ be16 demand ++ be8 (occasionCode occasion) ++ be8 bank.toNat ++ be16 budget ++
      be16 before ++ be8 rank ++ be16 after
  | .bankChange previous new budget sum sheds candidates =>  -- R163
    be8 previous.toNat ++ be8 new.toNat ++ be16 budget ++ be16 sum ++ setByte sheds ++ setByte candidates
  | .deviation h tag k value depth run =>  -- R134
    be8 h.val ++ [tag] ++ be8 (strokeClassCode k) ++ be16 value ++
      maybe 4 (depth.map (fun d => be16 d.1 ++ beInt16 d.2)) ++ be8 run
  | .stylusFault h fault run tag value st action =>  -- R131
    be8 h.val ++ be8 (stopCauseCode (faultCause fault)) ++ be8 run ++ [tag] ++ maybe 2 (value.map be16) ++
      be8 (channelStateCode st) ++ be8 (faultActionCode action)
  | .commitDone slot s1 s2 => be8 slot ++ be16 s1 ++ be16 s2  -- R15
  | .calCutDone h cells lo hi n timeout =>  -- R144
    be8 h.val ++ be16 cells ++ be16 lo ++ be16 hi ++ be16 n ++ be8 timeout
  | .calResult h low high depthLo depthHi gain base formerGain formerBase =>  -- R148
    be8 h.val ++ be16 low ++ be16 high ++ be16 depthLo ++ be16 depthHi ++ be16 gain ++ beInt16 base ++
      be16 formerGain ++ beInt16 formerBase
  | .calFailed h cause phase low high cells detail =>  -- R149
    be8 h.val ++ be8 (calCauseCode cause) ++ be8 (calPhaseCode phase) ++ maybe 2 (low.map be16) ++
      maybe 2 (high.map be16) ++ maybe 2 (cells.map be16) ++
      maybe 4 (detail.depths.map (fun d => be16 d.1 ++ be16 d.2)) ++
      maybe 5 (detail.range.map (fun v =>
        match v with
        | .gain g => 0 :: be32 g
        | .base b => 1 :: beInt32 b)) ++
      maybe 1 (detail.fault.map (fun f => be8 (stopCauseCode (faultCause f))))
  | .estop level => yes level  -- R107

end Sys2Proof.Claims

/-- Replies and notices are frames of R177's layout, and the notice of every event carries the kind code, the head
byte and the contents of its rule. How items given only in some cases are grouped behind presence bytes, that
CAL_FAILED sends the cells emitted once, and the sense of a line level are the model's reading (log entries 9, 16 and
26). -/
def Sys2Proof.Claims.NoticesCarryContentsOfTheirRules : Prop :=
  (∀ e : Event,
    eventKind e = (kindOf e).toNat ∧
    noticeFrame e =
      frameOf 0x92 (match headOfEvent e with
        | some h => BitVec.ofNat 8 h.val
        | none => 0x0f) (kindOf e :: bodyOf e)) ∧
  (∀ (code : Byte) (tag : Half) (status : Status) (data : List Byte),
    replyFrame code tag status data =
      frameOf 0x91 0x0f (code :: (be16 tag.toNat ++ be8 (statusCode status) ++ data))) ∧
  ∀ (kind head : Byte) (payload : List Byte),
    (frameOf kind head payload).wire =
      [0xb5, 0x4e, kind, head] ++ be16 payload.length ++ payload ++ be16 (frameOf kind head payload).crc.toNat

/-! ## Frames -/

namespace Sys2Proof.Claims

/-- The rows that may change the Table Store: table frames and commands, the binding and unbinding commands, CAL APPLY,
the resets, and a feed byte, which may end one of their frames. -/
def mayChangeTables : Instr → Bool
  | .tableDataOpen _ | .tableData _ | .tableDiscard .. | .tableCommit .. | .tableErase .. | .tableReadStart ..
  | .tableReadContinue .. | .arm .. | .disarm .. | .release .. | .calApply .. | .commitCompletion | .reset ..
  | .resetNAssert | .powerOn | .supplyFall | .feedByte _ => true
  | _ => false

/-- The rows that may change the job record, the timing settings, the notice mask or a head's wear. -/
def mayChangeSettings : Instr → Bool
  | .jobDefine .. | .timingSet .. | .noticeMask .. | .stylusWear .. | .forwardCount _ | .resetNAssert | .powerOn
  | .supplyFall | .feedByte _ => true
  | _ => false

end Sys2Proof.Claims

/-- Only the rows that act on the Table Store change it; only JOB DEFINE, TIMING SET, NOTICE MASK, STYLUS WEAR, a
forward count and a full reset change the record, the settings, the mask or the wear, and a forward count of these the
wear alone; no row but a line's own changes the level of a dedicated input. -/
def Obligations.TablesSettingsAndLinesChangeOnlyByTheirRows : Prop :=
  ∀ (c : Instr) (s t : State), exec c s = .next t →
    (mayChangeTables c = false → t.store = s.store) ∧
    (mayChangeSettings c = false →
      t.job.record = s.job.record ∧ t.ctu.settings = s.ctu.settings ∧ t.rpt.mask = s.rpt.mask ∧
        ∀ h : Head, (t.channels.get h).wear = (s.channels.get h).wear ∧
          (t.channels.get h).wearSub = (s.channels.get h).wearSub) ∧
    (∀ time, c = .forwardCount time →
      t.job.record = s.job.record ∧ t.ctu.settings = s.ctu.settings ∧ t.rpt.mask = s.rpt.mask) ∧
    (movesLine c = false → t.lines = s.lines)

/-! ## The statements made of several parts -/

/-- A step takes the event at the front of the queue and runs it with the queue's rest; on an empty queue the part
idles, which is the model's choice (log entry 1). -/
def Obligations.StepRunsFrontEventOrIdles : Prop :=
  StepTakesFrontEvent ∧ EmptyQueueIdles

/-- A full reset clears every block, holds the part deaf to every event, and ends at its release. That the bank keeps
its value while the reset holds is the model's choice (log entry 7), the strobe counters are its own (log entry 20),
and that commands, frames and expiries too do nothing in the held reset while a line row still moves its line is its
reading (log entry 6). -/
def Obligations.FullResetHoldsPartUntilReleased : Prop :=
  FullResetClearsEveryBlock ∧ HeldResetEndsAtItsRelease ∧ HeldResetIgnoresEvents

/-- The receive side moves by the table of R171 at each byte and by R172 at an interval without one, and a good frame of
an unknown kind is counted. -/
def Obligations.FeedLinkMovesByByteAndInterval : Prop :=
  FeedByteMovesReceiver ∧ ByteIntervalAbandonsFrame ∧ KindErrorIsCountedOnly

/-- Both sides of the link keep their bounds at every step. -/
def Obligations.LinkStaysOrderly : Prop :=
  ReceiveSideCountsArePreserved ∧ ReturnQueuesStayOrderly

/-- The codes, parameter lengths and availability of the commands, the codes of the link's quantities, and the layout of
its replies and notices. -/
def Obligations.CommandTableIsTheManuals : Prop :=
  CommandRowsAreTheManuals ∧ CodesAreTheManuals ∧ NoticesCarryContentsOfTheirRules

/-- The three checks common to every command, and a payload too short for a command: each refusal is answered with its
data and changes nothing else. That the refusal of an ARM gives the job state before its step is the model's reading
(log entry 15). -/
def Obligations.RefusedCommandsChangeNothing : Prop :=
  WrongLengthIsAnsweredWithRequiredLength ∧ UnavailableCommandIsAnsweredState ∧ UnknownAndShortCommandsAreAnswered

/-- The two commands that report the whole part. -/
def Obligations.IdentifyAndSnapshotReportPart : Prop :=
  IdentifyChangesNothing ∧ SnapshotCapturesPartAndClearsFlags

/-- Slot numbers above 36 and table-data payloads of the wrong form are refused before anything of the store is
touched. -/
def Obligations.TableRequestsAreCheckedForForm : Prop :=
  SlotNumberFixesKindAndSize ∧ MalformedTableFrameIsAnsweredLength

/-- Table-data frames with and without OPEN. -/
def Obligations.TableFramesBuildStagingImage : Prop :=
  OpenFrameClaimsStaging ∧ LaterFrameContinuesImage

/-- When an image of each kind is valid, and the entry index reported when it is not. That the fill is checked before
the entries is the model's reading (log entry 31). -/
def Obligations.ValidImagesAreThoseOfR13AndR14 : Prop :=
  ImageIsValidByConditionsOfItsKind ∧ InvalidNamesFirstOffendingEntry

/-- TABLE COMMIT, its completion, TABLE ERASE and TABLE DISCARD. -/
def Obligations.CommitEraseAndDiscardMoveSlots : Prop :=
  CommitStartsCopyOfValidImage ∧ CommitCompletionFillsSlot ∧ EraseAndDiscardFreeTables

/-- Forward counts and index pulses under each resolved index source. -/
def Obligations.CountsAndPulsesActByResolvedSource : Prop :=
  ForwardCountActsByResolvedSource ∧ IndexPulseIsBoundaryUnderLine

/-- The three events of the Cylinder Timing Unit that abort a cutting job at once. -/
def Obligations.ReverseStallAndFeedFaultAbortJob : Prop :=
  ReverseCountIsCountedAndAborts ∧ StallStopsTimingAndAborts ∧ FeedFaultAbortsCuttingJob

/-- A revolution boundary: its timing supervision, alone and beside everything else, and a slip beyond tolerance. -/
def Obligations.BoundaryServesTimingAndSlip : Prop :=
  BoundaryOutsideCuttingServesTiming ∧ BoundaryMeasuresPeriod ∧ SlipBeyondToleranceEndsJobAndCalibrations

/-- The revolution decision, and what a HOLD does. -/
def Obligations.DecisionGrantsOrHolds : Prop :=
  GrantNeedsTracksAndSpeed ∧ DecisionFollowsRetirements ∧ HoldWaitsOrAbortsAtLimit

/-- What a GO does, within the budget and above it. -/
def Obligations.GoShedsThenStartsTracks : Prop :=
  GoWithinBudgetStartsEveryActiveChannel ∧ GoShedsBeforeItStarts ∧ GoReportsShedsAndStartsTheRest

/-- A track part whose header names no head, and one whose payload has the wrong form. -/
def Obligations.PartsOfWrongFormAreRefused : Prop :=
  PartForNoHeadIsBadField ∧ MalformedPartIsRefusedWithLength

/-- An accepted part, and TRACK DISCARD. -/
def Obligations.PartsGrowRecordsAndDiscardFreesThem : Prop :=
  AcceptedPartGrowsItsRecord ∧ TrackDiscardFreesFillingRecord

/-- The word of a cell, its range, and its order in the tone. -/
def Obligations.CellWordFollowsStagesAndKeepsOrder : Prop :=
  CellWordFollowsFiveStages ∧ CutWordsKeepOrderOfTones

/-- A forward count at one channel. -/
def Obligations.CountStrokesTrackOrPattern : Prop :=
  CountAtCuttingChannelStrokesItsCell ∧ CountAtCalibratingChannelStrokesPattern

/-- A forward count at all four channels, without and with a lost monitor. -/
def Obligations.CountReachesEveryHead : Prop :=
  CountReachesEveryHeadOnItsOwn ∧ MonitorIsLostAtSixtyFourthMissingStroke ∧ LostMonitorActsAfterItsStroke ∧
    LostMonitorAbortsInEitherOrder

/-- START and STOP. -/
def Obligations.StartAndStopMoveJob : Prop :=
  StartRunsOrAbortsOnFeedFault ∧ StopChangesNoChannel

/-- The abort of a job, by command and by the emergency stop. -/
def Obligations.AbortAndEmergencyStopHaltJob : Prop :=
  AbortHaltsEveryActiveChannel ∧ AbortCommandAbortsJob ∧ EmergencyStopAbortsJobAndCalibrations

/-- The retirement of a track, the departure of a head from its job, and what a boundary does in job STOPPING. -/
def Obligations.RetirementReportsTrackAndMovesChannel : Prop :=
  RetirementFreesAndReportsTrack ∧ HeadLeavingJobMayEndIt ∧ StoppingBoundaryHaltsActiveHeads

/-- The stroke histories: kept at every step, and what they then say of the tags. -/
def Obligations.HistoriesHoldLatestDistinctStrokes : Prop :=
  HistoriesHoldLatestStrokes ∧ HistoryTagsAreDistinct

/-- CALIBRATE. That a pair of parameters out of order names its second is the model's choice (log entry 13). -/
def Obligations.CalibrateChecksAndStarts : Prop :=
  CalibrateStartsFromWorkingCopies ∧ CalibrateRefusesBadParameter

/-- The phases of a calibration at a boundary, and its failures. -/
def Obligations.CalibrationMovesByBoundaryAndFails : Prop :=
  BoundaryMovesCalibrationPhase ∧ CalibrationFailureReturnsHeadToOff

/-- The shedding order and the demand of a track. -/
def Obligations.SheddingOrderAndTrackDemand : Prop :=
  SheddingRemovesLowestPriorityFirst ∧ TrackDemandIsAtMostWorstCase

/-- The summed demand within the budget at every step, with the held reset's own invariant, which it needs. -/
def Obligations.DemandStaysWithinBudget : Prop :=
  HeldResetKeepsJobInSetup ∧ SummedDemandStaysWithinBudget

/-- The way of an event through the Report Unit. -/
def Obligations.PostedEventBecomesNoticeOrFlag : Prop :=
  EventIsFlaggedAndSentOrPassedOver ∧ SkipCountersCountOrdinaryEvents

/-- STYLUS WEAR, NOTICE MASK, NOTICE SKIP, COUNTERS READ and COUNTERS CLEAR. -/
def Obligations.WearNoticeSettingsAndCounters : Prop :=
  StylusWearSetsWearOfIdleHead ∧ NoticeSettingsAreReplacedWhole ∧ CountersAreReadAndCleared
end

