-- ==== Sys2Proof/Laws/State.lean ====
section
/-! SUPPORT. One lemma per field per update of the state, and the lemmas of a value per head. -/

namespace Sys2Proof.Machine

/-! ## A value per head -/

@[simp] theorem PerHead.get_set_same {α : Type} (p : PerHead α) (h : Head) (a : α) :
    (p.set h a).get h = a := by
  match h with
  | 0 => rfl
  | 1 => rfl
  | 2 => rfl
  | 3 => rfl

theorem PerHead.get_set {α : Type} (p : PerHead α) (h k : Head) (a : α) :
    (p.set h a).get k = if k = h then a else p.get k := by
  match h, k with
  | 0, 0 => rfl
  | 0, 1 => rfl
  | 0, 2 => rfl
  | 0, 3 => rfl
  | 1, 0 => rfl
  | 1, 1 => rfl
  | 1, 2 => rfl
  | 1, 3 => rfl
  | 2, 0 => rfl
  | 2, 1 => rfl
  | 2, 2 => rfl
  | 2, 3 => rfl
  | 3, 0 => rfl
  | 3, 1 => rfl
  | 3, 2 => rfl
  | 3, 3 => rfl

theorem PerHead.get_set_other {α : Type} (p : PerHead α) (h k : Head) (a : α) (hk : k ≠ h) :
    (p.set h a).get k = p.get k := by
  rw [PerHead.get_set, if_neg hk]

@[simp] theorem PerHead.get_const {α : Type} (a : α) (h : Head) : (PerHead.const a).get h = a := by
  match h with
  | 0 => rfl
  | 1 => rfl
  | 2 => rfl
  | 3 => rfl

@[simp] theorem PerHead.get_mapIdx {α β : Type} (f : Head → α → β) (p : PerHead α) (h : Head) :
    (p.mapIdx f).get h = f h (p.get h) := by
  match h with
  | 0 => rfl
  | 1 => rfl
  | 2 => rfl
  | 3 => rfl

@[simp] theorem PerHead.get_ofFn {α : Type} (f : Head → α) (h : Head) : (PerHead.ofFn f).get h = f h := by
  match h with
  | 0 => rfl
  | 1 => rfl
  | 2 => rfl
  | 3 => rfl

theorem PerHead.ext_get {α : Type} (p q : PerHead α) (hpq : ∀ h, p.get h = q.get h) : p = q := by
  cases p
  cases q
  have h0 := hpq 0
  have h1 := hpq 1
  have h2 := hpq 2
  have h3 := hpq 3
  simp only [PerHead.get] at h0 h1 h2 h3
  simp only [h0, h1, h2, h3]

@[simp] theorem PerHead.set_get_self {α : Type} (p : PerHead α) (h : Head) : p.set h (p.get h) = p := by
  match h with
  | 0 => rfl
  | 1 => rfl
  | 2 => rfl
  | 3 => rfl

/-- A property of the four heads one by one. -/
theorem forall_head (P : Head → Prop) (h0 : P 0) (h1 : P 1) (h2 : P 2) (h3 : P 3) (h : Head) : P h := by
  match h with
  | 0 => exact h0
  | 1 => exact h1
  | 2 => exact h2
  | 3 => exact h3

/-- A property that a step for one head keeps is kept by the step for the four heads. -/
theorem forHeads_keeps {σ : Type} (P : σ → Prop) (f : Head → σ → σ) (hf : ∀ h s, P s → P (f h s))
    (s : σ) (hs : P s) : P (forHeads f s) :=
  hf 3 _ (hf 2 _ (hf 1 _ (hf 0 _ hs)))

/-- A view that no step for one head changes is not changed by the step for the four heads. -/
theorem forHeads_view {σ τ : Type} (v : σ → τ) (f : Head → σ → σ) (hf : ∀ h s, v (f h s) = v s) (s : σ) :
    v (forHeads f s) = v s := by
  simp only [forHeads, hf]

/-! ## updChannel -/

@[simp] theorem State.updChannel_store (h : Head) (f : Channel → Channel) (s : State) :
    (State.updChannel h f s).store = s.store := rfl
@[simp] theorem State.updChannel_ctu (h : Head) (f : Channel → Channel) (s : State) :
    (State.updChannel h f s).ctu = s.ctu := rfl
@[simp] theorem State.updChannel_job (h : Head) (f : Channel → Channel) (s : State) :
    (State.updChannel h f s).job = s.job := rfl
@[simp] theorem State.updChannel_channels (h : Head) (f : Channel → Channel) (s : State) :
    (State.updChannel h f s).channels = s.channels.set h (f (s.channels.get h)) := rfl
@[simp] theorem State.updChannel_queues (h : Head) (f : Channel → Channel) (s : State) :
    (State.updChannel h f s).queues = s.queues := rfl
@[simp] theorem State.updChannel_monitors (h : Head) (f : Channel → Channel) (s : State) :
    (State.updChannel h f s).monitors = s.monitors := rfl
@[simp] theorem State.updChannel_cals (h : Head) (f : Channel → Channel) (s : State) :
    (State.updChannel h f s).cals = s.cals := rfl
@[simp] theorem State.updChannel_dbu (h : Head) (f : Channel → Channel) (s : State) :
    (State.updChannel h f s).dbu = s.dbu := rfl
@[simp] theorem State.updChannel_fli (h : Head) (f : Channel → Channel) (s : State) :
    (State.updChannel h f s).fli = s.fli := rfl
@[simp] theorem State.updChannel_rpt (h : Head) (f : Channel → Channel) (s : State) :
    (State.updChannel h f s).rpt = s.rpt := rfl
@[simp] theorem State.updChannel_lines (h : Head) (f : Channel → Channel) (s : State) :
    (State.updChannel h f s).lines = s.lines := rfl
@[simp] theorem State.updChannel_choices (h : Head) (f : Channel → Channel) (s : State) :
    (State.updChannel h f s).choices = s.choices := rfl
@[simp] theorem State.updChannel_pending (h : Head) (f : Channel → Channel) (s : State) :
    (State.updChannel h f s).pending = s.pending := rfl

/-! ## updQueue -/

@[simp] theorem State.updQueue_store (h : Head) (f : Queue → Queue) (s : State) :
    (State.updQueue h f s).store = s.store := rfl
@[simp] theorem State.updQueue_ctu (h : Head) (f : Queue → Queue) (s : State) :
    (State.updQueue h f s).ctu = s.ctu := rfl
@[simp] theorem State.updQueue_job (h : Head) (f : Queue → Queue) (s : State) :
    (State.updQueue h f s).job = s.job := rfl
@[simp] theorem State.updQueue_channels (h : Head) (f : Queue → Queue) (s : State) :
    (State.updQueue h f s).channels = s.channels := rfl
@[simp] theorem State.updQueue_queues (h : Head) (f : Queue → Queue) (s : State) :
    (State.updQueue h f s).queues = s.queues.set h (f (s.queues.get h)) := rfl
@[simp] theorem State.updQueue_monitors (h : Head) (f : Queue → Queue) (s : State) :
    (State.updQueue h f s).monitors = s.monitors := rfl
@[simp] theorem State.updQueue_cals (h : Head) (f : Queue → Queue) (s : State) :
    (State.updQueue h f s).cals = s.cals := rfl
@[simp] theorem State.updQueue_dbu (h : Head) (f : Queue → Queue) (s : State) :
    (State.updQueue h f s).dbu = s.dbu := rfl
@[simp] theorem State.updQueue_fli (h : Head) (f : Queue → Queue) (s : State) :
    (State.updQueue h f s).fli = s.fli := rfl
@[simp] theorem State.updQueue_rpt (h : Head) (f : Queue → Queue) (s : State) :
    (State.updQueue h f s).rpt = s.rpt := rfl
@[simp] theorem State.updQueue_lines (h : Head) (f : Queue → Queue) (s : State) :
    (State.updQueue h f s).lines = s.lines := rfl
@[simp] theorem State.updQueue_choices (h : Head) (f : Queue → Queue) (s : State) :
    (State.updQueue h f s).choices = s.choices := rfl
@[simp] theorem State.updQueue_pending (h : Head) (f : Queue → Queue) (s : State) :
    (State.updQueue h f s).pending = s.pending := rfl

/-! ## updMonitor -/

@[simp] theorem State.updMonitor_store (h : Head) (f : Monitor → Monitor) (s : State) :
    (State.updMonitor h f s).store = s.store := rfl
@[simp] theorem State.updMonitor_ctu (h : Head) (f : Monitor → Monitor) (s : State) :
    (State.updMonitor h f s).ctu = s.ctu := rfl
@[simp] theorem State.updMonitor_job (h : Head) (f : Monitor → Monitor) (s : State) :
    (State.updMonitor h f s).job = s.job := rfl
@[simp] theorem State.updMonitor_channels (h : Head) (f : Monitor → Monitor) (s : State) :
    (State.updMonitor h f s).channels = s.channels := rfl
@[simp] theorem State.updMonitor_queues (h : Head) (f : Monitor → Monitor) (s : State) :
    (State.updMonitor h f s).queues = s.queues := rfl
@[simp] theorem State.updMonitor_monitors (h : Head) (f : Monitor → Monitor) (s : State) :
    (State.updMonitor h f s).monitors = s.monitors.set h (f (s.monitors.get h)) := rfl
@[simp] theorem State.updMonitor_cals (h : Head) (f : Monitor → Monitor) (s : State) :
    (State.updMonitor h f s).cals = s.cals := rfl
@[simp] theorem State.updMonitor_dbu (h : Head) (f : Monitor → Monitor) (s : State) :
    (State.updMonitor h f s).dbu = s.dbu := rfl
@[simp] theorem State.updMonitor_fli (h : Head) (f : Monitor → Monitor) (s : State) :
    (State.updMonitor h f s).fli = s.fli := rfl
@[simp] theorem State.updMonitor_rpt (h : Head) (f : Monitor → Monitor) (s : State) :
    (State.updMonitor h f s).rpt = s.rpt := rfl
@[simp] theorem State.updMonitor_lines (h : Head) (f : Monitor → Monitor) (s : State) :
    (State.updMonitor h f s).lines = s.lines := rfl
@[simp] theorem State.updMonitor_choices (h : Head) (f : Monitor → Monitor) (s : State) :
    (State.updMonitor h f s).choices = s.choices := rfl
@[simp] theorem State.updMonitor_pending (h : Head) (f : Monitor → Monitor) (s : State) :
    (State.updMonitor h f s).pending = s.pending := rfl

/-! ## updCal -/

@[simp] theorem State.updCal_store (h : Head) (f : Calibration → Calibration) (s : State) :
    (State.updCal h f s).store = s.store := rfl
@[simp] theorem State.updCal_ctu (h : Head) (f : Calibration → Calibration) (s : State) :
    (State.updCal h f s).ctu = s.ctu := rfl
@[simp] theorem State.updCal_job (h : Head) (f : Calibration → Calibration) (s : State) :
    (State.updCal h f s).job = s.job := rfl
@[simp] theorem State.updCal_channels (h : Head) (f : Calibration → Calibration) (s : State) :
    (State.updCal h f s).channels = s.channels := rfl
@[simp] theorem State.updCal_queues (h : Head) (f : Calibration → Calibration) (s : State) :
    (State.updCal h f s).queues = s.queues := rfl
@[simp] theorem State.updCal_monitors (h : Head) (f : Calibration → Calibration) (s : State) :
    (State.updCal h f s).monitors = s.monitors := rfl
@[simp] theorem State.updCal_cals (h : Head) (f : Calibration → Calibration) (s : State) :
    (State.updCal h f s).cals = s.cals.set h (f (s.cals.get h)) := rfl
@[simp] theorem State.updCal_dbu (h : Head) (f : Calibration → Calibration) (s : State) :
    (State.updCal h f s).dbu = s.dbu := rfl
@[simp] theorem State.updCal_fli (h : Head) (f : Calibration → Calibration) (s : State) :
    (State.updCal h f s).fli = s.fli := rfl
@[simp] theorem State.updCal_rpt (h : Head) (f : Calibration → Calibration) (s : State) :
    (State.updCal h f s).rpt = s.rpt := rfl
@[simp] theorem State.updCal_lines (h : Head) (f : Calibration → Calibration) (s : State) :
    (State.updCal h f s).lines = s.lines := rfl
@[simp] theorem State.updCal_choices (h : Head) (f : Calibration → Calibration) (s : State) :
    (State.updCal h f s).choices = s.choices := rfl
@[simp] theorem State.updCal_pending (h : Head) (f : Calibration → Calibration) (s : State) :
    (State.updCal h f s).pending = s.pending := rfl

/-! ## updCounters -/

@[simp] theorem State.updCounters_store (h : Head) (f : HeadCounters → HeadCounters) (s : State) :
    (State.updCounters h f s).store = s.store := rfl
@[simp] theorem State.updCounters_ctu (h : Head) (f : HeadCounters → HeadCounters) (s : State) :
    (State.updCounters h f s).ctu = s.ctu := rfl
@[simp] theorem State.updCounters_job (h : Head) (f : HeadCounters → HeadCounters) (s : State) :
    (State.updCounters h f s).job = s.job := rfl
@[simp] theorem State.updCounters_channels (h : Head) (f : HeadCounters → HeadCounters) (s : State) :
    (State.updCounters h f s).channels = s.channels := rfl
@[simp] theorem State.updCounters_queues (h : Head) (f : HeadCounters → HeadCounters) (s : State) :
    (State.updCounters h f s).queues = s.queues := rfl
@[simp] theorem State.updCounters_monitors (h : Head) (f : HeadCounters → HeadCounters) (s : State) :
    (State.updCounters h f s).monitors = s.monitors := rfl
@[simp] theorem State.updCounters_cals (h : Head) (f : HeadCounters → HeadCounters) (s : State) :
    (State.updCounters h f s).cals = s.cals := rfl
@[simp] theorem State.updCounters_dbu (h : Head) (f : HeadCounters → HeadCounters) (s : State) :
    (State.updCounters h f s).dbu = s.dbu := rfl
@[simp] theorem State.updCounters_fli (h : Head) (f : HeadCounters → HeadCounters) (s : State) :
    (State.updCounters h f s).fli = s.fli := rfl
@[simp] theorem State.updCounters_rpt (h : Head) (f : HeadCounters → HeadCounters) (s : State) :
    (State.updCounters h f s).rpt = s.rpt.updHead h f := rfl
@[simp] theorem State.updCounters_lines (h : Head) (f : HeadCounters → HeadCounters) (s : State) :
    (State.updCounters h f s).lines = s.lines := rfl
@[simp] theorem State.updCounters_choices (h : Head) (f : HeadCounters → HeadCounters) (s : State) :
    (State.updCounters h f s).choices = s.choices := rfl
@[simp] theorem State.updCounters_pending (h : Head) (f : HeadCounters → HeadCounters) (s : State) :
    (State.updCounters h f s).pending = s.pending := rfl

/-! ## updCells -/

@[simp] theorem State.updCells_store (h : Head) (f : CellCounters → CellCounters) (s : State) :
    (State.updCells h f s).store = s.store := rfl
@[simp] theorem State.updCells_ctu (h : Head) (f : CellCounters → CellCounters) (s : State) :
    (State.updCells h f s).ctu = s.ctu := rfl
@[simp] theorem State.updCells_job (h : Head) (f : CellCounters → CellCounters) (s : State) :
    (State.updCells h f s).job = s.job := rfl
@[simp] theorem State.updCells_channels (h : Head) (f : CellCounters → CellCounters) (s : State) :
    (State.updCells h f s).channels = s.channels := rfl
@[simp] theorem State.updCells_queues (h : Head) (f : CellCounters → CellCounters) (s : State) :
    (State.updCells h f s).queues = s.queues := rfl
@[simp] theorem State.updCells_monitors (h : Head) (f : CellCounters → CellCounters) (s : State) :
    (State.updCells h f s).monitors = s.monitors := rfl
@[simp] theorem State.updCells_cals (h : Head) (f : CellCounters → CellCounters) (s : State) :
    (State.updCells h f s).cals = s.cals := rfl
@[simp] theorem State.updCells_dbu (h : Head) (f : CellCounters → CellCounters) (s : State) :
    (State.updCells h f s).dbu = s.dbu := rfl
@[simp] theorem State.updCells_fli (h : Head) (f : CellCounters → CellCounters) (s : State) :
    (State.updCells h f s).fli = s.fli := rfl
@[simp] theorem State.updCells_rpt (h : Head) (f : CellCounters → CellCounters) (s : State) :
    (State.updCells h f s).rpt = s.rpt.updCells h f := rfl
@[simp] theorem State.updCells_lines (h : Head) (f : CellCounters → CellCounters) (s : State) :
    (State.updCells h f s).lines = s.lines := rfl
@[simp] theorem State.updCells_choices (h : Head) (f : CellCounters → CellCounters) (s : State) :
    (State.updCells h f s).choices = s.choices := rfl
@[simp] theorem State.updCells_pending (h : Head) (f : CellCounters → CellCounters) (s : State) :
    (State.updCells h f s).pending = s.pending := rfl

/-! ## setDemand -/

@[simp] theorem State.setDemand_store (h : Head) (n : Nat) (s : State) :
    (State.setDemand h n s).store = s.store := rfl
@[simp] theorem State.setDemand_ctu (h : Head) (n : Nat) (s : State) :
    (State.setDemand h n s).ctu = s.ctu := rfl
@[simp] theorem State.setDemand_job (h : Head) (n : Nat) (s : State) :
    (State.setDemand h n s).job = s.job := rfl
@[simp] theorem State.setDemand_channels (h : Head) (n : Nat) (s : State) :
    (State.setDemand h n s).channels = s.channels := rfl
@[simp] theorem State.setDemand_queues (h : Head) (n : Nat) (s : State) :
    (State.setDemand h n s).queues = s.queues := rfl
@[simp] theorem State.setDemand_monitors (h : Head) (n : Nat) (s : State) :
    (State.setDemand h n s).monitors = s.monitors := rfl
@[simp] theorem State.setDemand_cals (h : Head) (n : Nat) (s : State) :
    (State.setDemand h n s).cals = s.cals := rfl
@[simp] theorem State.setDemand_dbu (h : Head) (n : Nat) (s : State) :
    (State.setDemand h n s).dbu = { s.dbu with demand := s.dbu.demand.set h n } := rfl
@[simp] theorem State.setDemand_fli (h : Head) (n : Nat) (s : State) :
    (State.setDemand h n s).fli = s.fli := rfl
@[simp] theorem State.setDemand_rpt (h : Head) (n : Nat) (s : State) :
    (State.setDemand h n s).rpt = s.rpt := rfl
@[simp] theorem State.setDemand_lines (h : Head) (n : Nat) (s : State) :
    (State.setDemand h n s).lines = s.lines := rfl
@[simp] theorem State.setDemand_choices (h : Head) (n : Nat) (s : State) :
    (State.setDemand h n s).choices = s.choices := rfl
@[simp] theorem State.setDemand_pending (h : Head) (n : Nat) (s : State) :
    (State.setDemand h n s).pending = s.pending := rfl

/-! ## setAccumulator -/

@[simp] theorem State.setAccumulator_store (h : Head) (v : Nat) (s : State) :
    (State.setAccumulator h v s).store = s.store := rfl
@[simp] theorem State.setAccumulator_ctu (h : Head) (v : Nat) (s : State) :
    (State.setAccumulator h v s).ctu = s.ctu := rfl
@[simp] theorem State.setAccumulator_job (h : Head) (v : Nat) (s : State) :
    (State.setAccumulator h v s).job = s.job := rfl
@[simp] theorem State.setAccumulator_channels (h : Head) (v : Nat) (s : State) :
    (State.setAccumulator h v s).channels = s.channels.set h { s.channels.get h with accumulator := v } := rfl
@[simp] theorem State.setAccumulator_queues (h : Head) (v : Nat) (s : State) :
    (State.setAccumulator h v s).queues = s.queues := rfl
@[simp] theorem State.setAccumulator_monitors (h : Head) (v : Nat) (s : State) :
    (State.setAccumulator h v s).monitors = s.monitors := rfl
@[simp] theorem State.setAccumulator_cals (h : Head) (v : Nat) (s : State) :
    (State.setAccumulator h v s).cals = s.cals := rfl
@[simp] theorem State.setAccumulator_dbu (h : Head) (v : Nat) (s : State) :
    (State.setAccumulator h v s).dbu = s.dbu := rfl
@[simp] theorem State.setAccumulator_fli (h : Head) (v : Nat) (s : State) :
    (State.setAccumulator h v s).fli = s.fli := rfl
@[simp] theorem State.setAccumulator_rpt (h : Head) (v : Nat) (s : State) :
    (State.setAccumulator h v s).rpt = s.rpt := rfl
@[simp] theorem State.setAccumulator_lines (h : Head) (v : Nat) (s : State) :
    (State.setAccumulator h v s).lines = s.lines := rfl
@[simp] theorem State.setAccumulator_choices (h : Head) (v : Nat) (s : State) :
    (State.setAccumulator h v s).choices = s.choices := rfl
@[simp] theorem State.setAccumulator_pending (h : Head) (v : Nat) (s : State) :
    (State.setAccumulator h v s).pending = s.pending := rfl

/-! ## post -/

@[simp] theorem State.post_store (e : Event) (s : State) :
    (State.post e s).store = s.store := rfl
@[simp] theorem State.post_ctu (e : Event) (s : State) :
    (State.post e s).ctu = s.ctu := rfl
@[simp] theorem State.post_job (e : Event) (s : State) :
    (State.post e s).job = s.job := rfl
@[simp] theorem State.post_channels (e : Event) (s : State) :
    (State.post e s).channels = s.channels := rfl
@[simp] theorem State.post_queues (e : Event) (s : State) :
    (State.post e s).queues = s.queues := rfl
@[simp] theorem State.post_monitors (e : Event) (s : State) :
    (State.post e s).monitors = s.monitors := rfl
@[simp] theorem State.post_cals (e : Event) (s : State) :
    (State.post e s).cals = s.cals := rfl
@[simp] theorem State.post_dbu (e : Event) (s : State) :
    (State.post e s).dbu = s.dbu := rfl
@[simp] theorem State.post_lines (e : Event) (s : State) :
    (State.post e s).lines = s.lines := rfl
@[simp] theorem State.post_choices (e : Event) (s : State) :
    (State.post e s).choices = s.choices := rfl
@[simp] theorem State.post_pending (e : Event) (s : State) :
    (State.post e s).pending = s.pending := rfl

/-! ## queueReply -/

@[simp] theorem State.queueReply_store (f : ReturnFrame) (s : State) :
    (State.queueReply f s).store = s.store := rfl
@[simp] theorem State.queueReply_ctu (f : ReturnFrame) (s : State) :
    (State.queueReply f s).ctu = s.ctu := rfl
@[simp] theorem State.queueReply_job (f : ReturnFrame) (s : State) :
    (State.queueReply f s).job = s.job := rfl
@[simp] theorem State.queueReply_channels (f : ReturnFrame) (s : State) :
    (State.queueReply f s).channels = s.channels := rfl
@[simp] theorem State.queueReply_queues (f : ReturnFrame) (s : State) :
    (State.queueReply f s).queues = s.queues := rfl
@[simp] theorem State.queueReply_monitors (f : ReturnFrame) (s : State) :
    (State.queueReply f s).monitors = s.monitors := rfl
@[simp] theorem State.queueReply_cals (f : ReturnFrame) (s : State) :
    (State.queueReply f s).cals = s.cals := rfl
@[simp] theorem State.queueReply_dbu (f : ReturnFrame) (s : State) :
    (State.queueReply f s).dbu = s.dbu := rfl
@[simp] theorem State.queueReply_lines (f : ReturnFrame) (s : State) :
    (State.queueReply f s).lines = s.lines := rfl
@[simp] theorem State.queueReply_choices (f : ReturnFrame) (s : State) :
    (State.queueReply f s).choices = s.choices := rfl
@[simp] theorem State.queueReply_pending (f : ReturnFrame) (s : State) :
    (State.queueReply f s).pending = s.pending := rfl

/-! ## arbitrate -/

@[simp] theorem State.arbitrate_store (s : State) :
    (State.arbitrate s).store = s.store := rfl
@[simp] theorem State.arbitrate_ctu (s : State) :
    (State.arbitrate s).ctu = s.ctu := rfl
@[simp] theorem State.arbitrate_job (s : State) :
    (State.arbitrate s).job = s.job := rfl
@[simp] theorem State.arbitrate_channels (s : State) :
    (State.arbitrate s).channels = s.channels := rfl
@[simp] theorem State.arbitrate_queues (s : State) :
    (State.arbitrate s).queues = s.queues := rfl
@[simp] theorem State.arbitrate_monitors (s : State) :
    (State.arbitrate s).monitors = s.monitors := rfl
@[simp] theorem State.arbitrate_cals (s : State) :
    (State.arbitrate s).cals = s.cals := rfl
@[simp] theorem State.arbitrate_dbu (s : State) :
    (State.arbitrate s).dbu = s.dbu := rfl
@[simp] theorem State.arbitrate_fli (s : State) :
    (State.arbitrate s).fli = s.fli.arbitrate := rfl
@[simp] theorem State.arbitrate_rpt (s : State) :
    (State.arbitrate s).rpt = s.rpt := rfl
@[simp] theorem State.arbitrate_lines (s : State) :
    (State.arbitrate s).lines = s.lines := rfl
@[simp] theorem State.arbitrate_choices (s : State) :
    (State.arbitrate s).choices = s.choices := rfl
@[simp] theorem State.arbitrate_pending (s : State) :
    (State.arbitrate s).pending = s.pending := rfl

/-! ## linkErrorOf -/

@[simp] theorem State.linkErrorOf_store (k : LinkErrorClass) (s : State) :
    (State.linkErrorOf k s).store = s.store := rfl
@[simp] theorem State.linkErrorOf_ctu (k : LinkErrorClass) (s : State) :
    (State.linkErrorOf k s).ctu = s.ctu := rfl
@[simp] theorem State.linkErrorOf_job (k : LinkErrorClass) (s : State) :
    (State.linkErrorOf k s).job = s.job := rfl
@[simp] theorem State.linkErrorOf_channels (k : LinkErrorClass) (s : State) :
    (State.linkErrorOf k s).channels = s.channels := rfl
@[simp] theorem State.linkErrorOf_queues (k : LinkErrorClass) (s : State) :
    (State.linkErrorOf k s).queues = s.queues := rfl
@[simp] theorem State.linkErrorOf_monitors (k : LinkErrorClass) (s : State) :
    (State.linkErrorOf k s).monitors = s.monitors := rfl
@[simp] theorem State.linkErrorOf_cals (k : LinkErrorClass) (s : State) :
    (State.linkErrorOf k s).cals = s.cals := rfl
@[simp] theorem State.linkErrorOf_dbu (k : LinkErrorClass) (s : State) :
    (State.linkErrorOf k s).dbu = s.dbu := rfl
@[simp] theorem State.linkErrorOf_fli (k : LinkErrorClass) (s : State) :
    (State.linkErrorOf k s).fli = s.fli := rfl
@[simp] theorem State.linkErrorOf_rpt (k : LinkErrorClass) (s : State) :
    (State.linkErrorOf k s).rpt = s.rpt.linkErrorOf k := rfl
@[simp] theorem State.linkErrorOf_lines (k : LinkErrorClass) (s : State) :
    (State.linkErrorOf k s).lines = s.lines := rfl
@[simp] theorem State.linkErrorOf_choices (k : LinkErrorClass) (s : State) :
    (State.linkErrorOf k s).choices = s.choices := rfl
@[simp] theorem State.linkErrorOf_pending (k : LinkErrorClass) (s : State) :
    (State.linkErrorOf k s).pending = s.pending := rfl

/-! ## receiving -/

@[simp] theorem State.receiving_store (r : Receive) (s : State) :
    (State.receiving r s).store = s.store := rfl
@[simp] theorem State.receiving_ctu (r : Receive) (s : State) :
    (State.receiving r s).ctu = s.ctu := rfl
@[simp] theorem State.receiving_job (r : Receive) (s : State) :
    (State.receiving r s).job = s.job := rfl
@[simp] theorem State.receiving_channels (r : Receive) (s : State) :
    (State.receiving r s).channels = s.channels := rfl
@[simp] theorem State.receiving_queues (r : Receive) (s : State) :
    (State.receiving r s).queues = s.queues := rfl
@[simp] theorem State.receiving_monitors (r : Receive) (s : State) :
    (State.receiving r s).monitors = s.monitors := rfl
@[simp] theorem State.receiving_cals (r : Receive) (s : State) :
    (State.receiving r s).cals = s.cals := rfl
@[simp] theorem State.receiving_dbu (r : Receive) (s : State) :
    (State.receiving r s).dbu = s.dbu := rfl
@[simp] theorem State.receiving_fli (r : Receive) (s : State) :
    (State.receiving r s).fli = { s.fli with receive := r } := rfl
@[simp] theorem State.receiving_rpt (r : Receive) (s : State) :
    (State.receiving r s).rpt = s.rpt := rfl
@[simp] theorem State.receiving_lines (r : Receive) (s : State) :
    (State.receiving r s).lines = s.lines := rfl
@[simp] theorem State.receiving_choices (r : Receive) (s : State) :
    (State.receiving r s).choices = s.choices := rfl
@[simp] theorem State.receiving_pending (r : Receive) (s : State) :
    (State.receiving r s).pending = s.pending := rfl

/-! ## dropFeed -/

@[simp] theorem State.dropFeed_store (s : State) :
    (State.dropFeed s).store = s.store := rfl
@[simp] theorem State.dropFeed_ctu (s : State) :
    (State.dropFeed s).ctu = { s.ctu with feedEn := s.ctu.feedEn && s.anyCutting } := rfl
@[simp] theorem State.dropFeed_job (s : State) :
    (State.dropFeed s).job = s.job := rfl
@[simp] theorem State.dropFeed_channels (s : State) :
    (State.dropFeed s).channels = s.channels := rfl
@[simp] theorem State.dropFeed_queues (s : State) :
    (State.dropFeed s).queues = s.queues := rfl
@[simp] theorem State.dropFeed_monitors (s : State) :
    (State.dropFeed s).monitors = s.monitors := rfl
@[simp] theorem State.dropFeed_cals (s : State) :
    (State.dropFeed s).cals = s.cals := rfl
@[simp] theorem State.dropFeed_dbu (s : State) :
    (State.dropFeed s).dbu = s.dbu := rfl
@[simp] theorem State.dropFeed_fli (s : State) :
    (State.dropFeed s).fli = s.fli := rfl
@[simp] theorem State.dropFeed_rpt (s : State) :
    (State.dropFeed s).rpt = s.rpt := rfl
@[simp] theorem State.dropFeed_lines (s : State) :
    (State.dropFeed s).lines = s.lines := rfl
@[simp] theorem State.dropFeed_choices (s : State) :
    (State.dropFeed s).choices = s.choices := rfl
@[simp] theorem State.dropFeed_pending (s : State) :
    (State.dropFeed s).pending = s.pending := rfl

/-! ## enterJob -/

@[simp] theorem State.enterJob_store (st : JobState) (r : Option JobResult) (c : Option StopCause) (s : State) :
    (State.enterJob st r c s).store = s.store := rfl
@[simp] theorem State.enterJob_ctu (st : JobState) (r : Option JobResult) (c : Option StopCause) (s : State) :
    (State.enterJob st r c s).ctu = s.ctu := rfl
@[simp] theorem State.enterJob_job (st : JobState) (r : Option JobResult) (c : Option StopCause) (s : State) :
    (State.enterJob st r c s).job = { s.job with state := st, result := r, abortCause := c } := rfl
@[simp] theorem State.enterJob_channels (st : JobState) (r : Option JobResult) (c : Option StopCause) (s : State) :
    (State.enterJob st r c s).channels = s.channels := rfl
@[simp] theorem State.enterJob_queues (st : JobState) (r : Option JobResult) (c : Option StopCause) (s : State) :
    (State.enterJob st r c s).queues = s.queues := rfl
@[simp] theorem State.enterJob_monitors (st : JobState) (r : Option JobResult) (c : Option StopCause) (s : State) :
    (State.enterJob st r c s).monitors = s.monitors := rfl
@[simp] theorem State.enterJob_cals (st : JobState) (r : Option JobResult) (c : Option StopCause) (s : State) :
    (State.enterJob st r c s).cals = s.cals := rfl
@[simp] theorem State.enterJob_dbu (st : JobState) (r : Option JobResult) (c : Option StopCause) (s : State) :
    (State.enterJob st r c s).dbu = s.dbu := rfl
@[simp] theorem State.enterJob_lines (st : JobState) (r : Option JobResult) (c : Option StopCause) (s : State) :
    (State.enterJob st r c s).lines = s.lines := rfl
@[simp] theorem State.enterJob_choices (st : JobState) (r : Option JobResult) (c : Option StopCause) (s : State) :
    (State.enterJob st r c s).choices = s.choices := rfl
@[simp] theorem State.enterJob_pending (st : JobState) (r : Option JobResult) (c : Option StopCause) (s : State) :
    (State.enterJob st r c s).pending = s.pending := rfl

/-! ## depart -/

@[simp] theorem State.depart_store (h : Head) (st : ChannelState) (c : StopCause) (s : State) :
    (State.depart h st c s).store = s.store := rfl
@[simp] theorem State.depart_ctu (h : Head) (st : ChannelState) (c : StopCause) (s : State) :
    (State.depart h st c s).ctu = s.ctu := rfl
@[simp] theorem State.depart_job (h : Head) (st : ChannelState) (c : StopCause) (s : State) :
    (State.depart h st c s).job = s.job := rfl
@[simp] theorem State.depart_channels (h : Head) (st : ChannelState) (c : StopCause) (s : State) :
    (State.depart h st c s).channels = s.channels.set h ((s.channels.get h).leave st c) := rfl
@[simp] theorem State.depart_queues (h : Head) (st : ChannelState) (c : StopCause) (s : State) :
    (State.depart h st c s).queues = s.queues.set h (s.queues.get h).emptied := rfl
@[simp] theorem State.depart_monitors (h : Head) (st : ChannelState) (c : StopCause) (s : State) :
    (State.depart h st c s).monitors = s.monitors := rfl
@[simp] theorem State.depart_cals (h : Head) (st : ChannelState) (c : StopCause) (s : State) :
    (State.depart h st c s).cals = s.cals := rfl
@[simp] theorem State.depart_dbu (h : Head) (st : ChannelState) (c : StopCause) (s : State) :
    (State.depart h st c s).dbu = { s.dbu with demand := s.dbu.demand.set h 0 } := rfl
@[simp] theorem State.depart_fli (h : Head) (st : ChannelState) (c : StopCause) (s : State) :
    (State.depart h st c s).fli = s.fli := rfl
@[simp] theorem State.depart_lines (h : Head) (st : ChannelState) (c : StopCause) (s : State) :
    (State.depart h st c s).lines = s.lines := rfl
@[simp] theorem State.depart_choices (h : Head) (st : ChannelState) (c : StopCause) (s : State) :
    (State.depart h st c s).choices = s.choices := rfl
@[simp] theorem State.depart_pending (h : Head) (st : ChannelState) (c : StopCause) (s : State) :
    (State.depart h st c s).pending = s.pending := rfl

/-! ## lineFree -/

@[simp] theorem State.lineFree_store (s : State) :
    (State.lineFree s).store = s.store := rfl
@[simp] theorem State.lineFree_ctu (s : State) :
    (State.lineFree s).ctu = s.ctu := rfl
@[simp] theorem State.lineFree_job (s : State) :
    (State.lineFree s).job = s.job := rfl
@[simp] theorem State.lineFree_channels (s : State) :
    (State.lineFree s).channels = s.channels := rfl
@[simp] theorem State.lineFree_queues (s : State) :
    (State.lineFree s).queues = s.queues := rfl
@[simp] theorem State.lineFree_monitors (s : State) :
    (State.lineFree s).monitors = s.monitors := rfl
@[simp] theorem State.lineFree_cals (s : State) :
    (State.lineFree s).cals = s.cals := rfl
@[simp] theorem State.lineFree_dbu (s : State) :
    (State.lineFree s).dbu = s.dbu := rfl
@[simp] theorem State.lineFree_fli (s : State) :
    (State.lineFree s).fli = { s.fli with line := none } := rfl
@[simp] theorem State.lineFree_rpt (s : State) :
    (State.lineFree s).rpt = s.rpt := rfl
@[simp] theorem State.lineFree_lines (s : State) :
    (State.lineFree s).lines = s.lines := rfl
@[simp] theorem State.lineFree_choices (s : State) :
    (State.lineFree s).choices = s.choices := rfl
@[simp] theorem State.lineFree_pending (s : State) :
    (State.lineFree s).pending = s.pending := rfl

/-! ## The queues of the link under a post and a reply -/

@[simp] theorem State.post_fli_replies (e : Event) (s : State) : (s.post e).fli.replies = s.fli.replies := rfl
@[simp] theorem State.post_fli_line (e : Event) (s : State) : (s.post e).fli.line = s.fli.line := rfl
@[simp] theorem State.post_fli_receive (e : Event) (s : State) : (s.post e).fli.receive = s.fli.receive := rfl
@[simp] theorem State.post_rpt_heads (e : Event) (s : State) : (s.post e).rpt.heads = s.rpt.heads := rfl
@[simp] theorem State.post_rpt_mask (e : Event) (s : State) : (s.post e).rpt.mask = s.rpt.mask := rfl
@[simp] theorem State.queueReply_fli_notices (f : ReturnFrame) (s : State) :
    (s.queueReply f).fli.notices = s.fli.notices := rfl
@[simp] theorem State.queueReply_fli_line (f : ReturnFrame) (s : State) :
    (s.queueReply f).fli.line = s.fli.line := rfl
@[simp] theorem State.queueReply_fli_receive (f : ReturnFrame) (s : State) :
    (s.queueReply f).fli.receive = s.fli.receive := rfl

end Sys2Proof.Machine
end

