-- ==== Sys2Proof/Laws/Frames.lean ====
section
/-! SUPPORT. What each shared operation leaves unchanged: one lemma per operation. -/

namespace Sys2Proof.Machine

/-! ## Posting -/

@[simp] theorem State.postAll_frame (es : List Event) (s : State) :
    (State.postAll es s).store = s.store ∧ (State.postAll es s).ctu = s.ctu ∧
    (State.postAll es s).job = s.job ∧ (State.postAll es s).channels = s.channels ∧
    (State.postAll es s).queues = s.queues ∧ (State.postAll es s).monitors = s.monitors ∧
    (State.postAll es s).cals = s.cals ∧ (State.postAll es s).dbu = s.dbu ∧
    (State.postAll es s).lines = s.lines ∧ (State.postAll es s).choices = s.choices ∧
    (State.postAll es s).pending = s.pending := by
  induction es generalizing s with
  | nil => exact ⟨rfl, rfl, rfl, rfl, rfl, rfl, rfl, rfl, rfl, rfl, rfl⟩
  | cons e es ih => exact ih (s.post e)

/-! ## Leaving the job and abort -/

@[simp] theorem State.endJob_frame (s : State) :
    (State.endJob s).store = s.store ∧ (State.endJob s).ctu = s.ctu ∧
    (State.endJob s).channels = s.channels ∧ (State.endJob s).queues = s.queues ∧
    (State.endJob s).monitors = s.monitors ∧ (State.endJob s).cals = s.cals ∧
    (State.endJob s).dbu = s.dbu ∧ (State.endJob s).lines = s.lines ∧
    (State.endJob s).choices = s.choices ∧ (State.endJob s).pending = s.pending := by
  unfold State.endJob
  repeat' split
  all_goals exact ⟨rfl, rfl, rfl, rfl, rfl, rfl, rfl, rfl, rfl, rfl⟩

@[simp] theorem State.leaveJob_frame (h : Head) (st : ChannelState) (c : StopCause) (s : State) :
    (State.leaveJob h st c s).store = s.store ∧ (State.leaveJob h st c s).monitors = s.monitors ∧
    (State.leaveJob h st c s).cals = s.cals ∧ (State.leaveJob h st c s).lines = s.lines ∧
    (State.leaveJob h st c s).choices = s.choices ∧ (State.leaveJob h st c s).pending = s.pending := by simp [State.leaveJob]

@[simp] theorem State.haltIfActive_frame (c : StopCause) (h : Head) (s : State) :
    (State.haltIfActive c h s).store = s.store ∧ (State.haltIfActive c h s).ctu = s.ctu ∧
    (State.haltIfActive c h s).job = s.job ∧ (State.haltIfActive c h s).monitors = s.monitors ∧
    (State.haltIfActive c h s).cals = s.cals ∧ (State.haltIfActive c h s).fli = s.fli ∧
    (State.haltIfActive c h s).lines = s.lines ∧ (State.haltIfActive c h s).choices = s.choices ∧
    (State.haltIfActive c h s).pending = s.pending := by
  unfold State.haltIfActive
  repeat' split
  all_goals exact ⟨rfl, rfl, rfl, rfl, rfl, rfl, rfl, rfl, rfl⟩

@[simp] theorem State.abortJob_frame (c : StopCause) (s : State) :
    (State.abortJob c s).store = s.store ∧ (State.abortJob c s).monitors = s.monitors ∧
    (State.abortJob c s).cals = s.cals ∧ (State.abortJob c s).lines = s.lines ∧
    (State.abortJob c s).choices = s.choices ∧ (State.abortJob c s).pending = s.pending := by
  have hh := forHeads_view (fun s : State => (s.store, s.monitors, s.cals, s.lines, s.choices, s.pending)) (State.haltIfActive c) (fun h s => by simp)
    { s with job := { s.job with state := .aborted, result := none, abortCause := some c } }
  unfold State.abortJob
  split
  · simpa using hh
  · exact ⟨rfl, rfl, rfl, rfl, rfl, rfl⟩

@[simp] theorem State.abortIfCutting_frame (c : StopCause) (s : State) :
    (State.abortIfCutting c s).store = s.store ∧ (State.abortIfCutting c s).monitors = s.monitors ∧
    (State.abortIfCutting c s).cals = s.cals ∧ (State.abortIfCutting c s).lines = s.lines ∧
    (State.abortIfCutting c s).choices = s.choices ∧ (State.abortIfCutting c s).pending = s.pending := by
  unfold State.abortIfCutting
  repeat' split
  all_goals simp

/-! ## Calibration failure and stylus faults -/

@[simp] theorem State.endCal_frame (h : Head) (s : State) :
    (State.endCal h s).store = s.store ∧ (State.endCal h s).ctu = s.ctu ∧ (State.endCal h s).job = s.job ∧
    (State.endCal h s).queues = s.queues ∧ (State.endCal h s).monitors = s.monitors ∧
    (State.endCal h s).dbu = s.dbu ∧ (State.endCal h s).fli = s.fli ∧ (State.endCal h s).rpt = s.rpt ∧
    (State.endCal h s).lines = s.lines ∧ (State.endCal h s).choices = s.choices ∧
    (State.endCal h s).pending = s.pending := by
  unfold State.endCal
  exact ⟨rfl, rfl, rfl, rfl, rfl, rfl, rfl, rfl, rfl, rfl, rfl⟩

@[simp] theorem State.failCal_frame (h : Head) (c : CalCause) (d : CalDetail) (s : State) :
    (State.failCal h c d s).store = s.store ∧ (State.failCal h c d s).ctu = s.ctu ∧
    (State.failCal h c d s).job = s.job ∧ (State.failCal h c d s).queues = s.queues ∧
    (State.failCal h c d s).monitors = s.monitors ∧ (State.failCal h c d s).dbu = s.dbu ∧
    (State.failCal h c d s).lines = s.lines ∧ (State.failCal h c d s).choices = s.choices ∧
    (State.failCal h c d s).pending = s.pending := by
  unfold State.failCal
  exact ⟨rfl, rfl, rfl, rfl, rfl, rfl, rfl, rfl, rfl⟩

@[simp] theorem State.failAllCals_frame (c : CalCause) (s : State) :
    (State.failAllCals c s).store = s.store ∧ (State.failAllCals c s).ctu = s.ctu ∧
    (State.failAllCals c s).job = s.job ∧ (State.failAllCals c s).queues = s.queues ∧
    (State.failAllCals c s).monitors = s.monitors ∧ (State.failAllCals c s).dbu = s.dbu ∧
    (State.failAllCals c s).lines = s.lines ∧ (State.failAllCals c s).choices = s.choices ∧
    (State.failAllCals c s).pending = s.pending := by
  have hh := forHeads_view (fun s : State => (s.store, s.ctu, s.job, s.queues, s.monitors, s.dbu, s.lines, s.choices, s.pending))
    (fun h s => if s.calibrating h then s.failCal h c CalDetail.plain else s) (fun h s => by split <;> rfl) s
  simpa [State.failAllCals] using hh

@[simp] theorem State.raiseFault_frame (h : Head) (f : StylusFault) (n : Nat) (t : BitVec 8) (v : Option Nat) (s : State) :
    (State.raiseFault h f n t v s).store = s.store ∧ (State.raiseFault h f n t v s).ctu = s.ctu ∧
    (State.raiseFault h f n t v s).job = s.job ∧ (State.raiseFault h f n t v s).channels = s.channels ∧
    (State.raiseFault h f n t v s).queues = s.queues ∧
    (State.raiseFault h f n t v s).monitors = s.monitors ∧ (State.raiseFault h f n t v s).cals = s.cals ∧
    (State.raiseFault h f n t v s).dbu = s.dbu ∧ (State.raiseFault h f n t v s).lines = s.lines ∧
    (State.raiseFault h f n t v s).choices = s.choices ∧ (State.raiseFault h f n t v s).pending = s.pending := by
  unfold State.raiseFault
  exact ⟨rfl, rfl, rfl, rfl, rfl, rfl, rfl, rfl, rfl, rfl, rfl⟩

@[simp] theorem State.actFault_frame (h : Head) (f : StylusFault) (a : FaultAction) (s : State) :
    (State.actFault h f a s).store = s.store ∧ (State.actFault h f a s).monitors = s.monitors ∧
    (State.actFault h f a s).lines = s.lines ∧ (State.actFault h f a s).choices = s.choices ∧
    (State.actFault h f a s).pending = s.pending := by
  unfold State.actFault
  repeat' split
  all_goals simp

/-! ## Sheds -/

@[simp] theorem State.shedHead_frame (o : ShedOccasion) (b n : Nat) (x : Shed) (s : State) :
    (State.shedHead o b n x s).store = s.store ∧ (State.shedHead o b n x s).monitors = s.monitors ∧
    (State.shedHead o b n x s).cals = s.cals ∧ (State.shedHead o b n x s).lines = s.lines ∧
    (State.shedHead o b n x s).choices = s.choices ∧ (State.shedHead o b n x s).pending = s.pending := by simp [State.shedHead]

@[simp] theorem State.shedAll_frame (o : ShedOccasion) (b n : Nat) (xs : List Shed) (s : State) :
    (State.shedAll o b n xs s).store = s.store ∧ (State.shedAll o b n xs s).monitors = s.monitors ∧
    (State.shedAll o b n xs s).cals = s.cals ∧ (State.shedAll o b n xs s).lines = s.lines ∧
    (State.shedAll o b n xs s).choices = s.choices ∧ (State.shedAll o b n xs s).pending = s.pending := by
  have hh := forHeads_view (fun s : State => (s.store, s.monitors, s.cals, s.lines, s.choices, s.pending))
    (fun h s => match shedOf xs h with | some x => s.shedHead o b n x | none => s)
    (fun h s => by split <;> simp) s
  simp only [Prod.mk.injEq] at hh
  exact hh

@[simp] theorem State.changeBank_frame (b : BitVec 3) (s : State) :
    (State.changeBank b s).store = s.store ∧ (State.changeBank b s).monitors = s.monitors ∧
    (State.changeBank b s).cals = s.cals ∧ (State.changeBank b s).lines = s.lines ∧
    (State.changeBank b s).choices = s.choices ∧ (State.changeBank b s).pending = s.pending := by simp [State.changeBank]

/-! ## The revolution boundary -/

@[simp] theorem State.noteSlip_frame (t : TimingSettings) (x : Int) (s : State) :
    (State.noteSlip t x s).store = s.store ∧ (State.noteSlip t x s).ctu = s.ctu ∧
    (State.noteSlip t x s).job = s.job ∧ (State.noteSlip t x s).channels = s.channels ∧
    (State.noteSlip t x s).queues = s.queues ∧ (State.noteSlip t x s).monitors = s.monitors ∧
    (State.noteSlip t x s).cals = s.cals ∧ (State.noteSlip t x s).dbu = s.dbu ∧
    (State.noteSlip t x s).lines = s.lines ∧ (State.noteSlip t x s).choices = s.choices ∧
    (State.noteSlip t x s).pending = s.pending := by
  unfold State.noteSlip
  dsimp only
  repeat' split
  all_goals exact ⟨rfl, rfl, rfl, rfl, rfl, rfl, rfl, rfl, rfl, rfl, rfl⟩

@[simp] theorem State.noteSpeed_frame (t : TimingSettings) (s : State) :
    (State.noteSpeed t s).store = s.store ∧ (State.noteSpeed t s).ctu = s.ctu ∧
    (State.noteSpeed t s).job = s.job ∧ (State.noteSpeed t s).channels = s.channels ∧
    (State.noteSpeed t s).queues = s.queues ∧ (State.noteSpeed t s).monitors = s.monitors ∧
    (State.noteSpeed t s).cals = s.cals ∧ (State.noteSpeed t s).dbu = s.dbu ∧
    (State.noteSpeed t s).lines = s.lines ∧ (State.noteSpeed t s).choices = s.choices ∧
    (State.noteSpeed t s).pending = s.pending := by
  unfold State.noteSpeed
  dsimp only
  repeat' split
  all_goals exact ⟨rfl, rfl, rfl, rfl, rfl, rfl, rfl, rfl, rfl, rfl, rfl⟩

@[simp] theorem State.measurePeriod_frame (t : TimingSettings) (time : Nat) (s : State) :
    (State.measurePeriod t time s).store = s.store ∧ (State.measurePeriod t time s).job = s.job ∧
    (State.measurePeriod t time s).channels = s.channels ∧
    (State.measurePeriod t time s).queues = s.queues ∧
    (State.measurePeriod t time s).monitors = s.monitors ∧ (State.measurePeriod t time s).cals = s.cals ∧
    (State.measurePeriod t time s).dbu = s.dbu ∧ (State.measurePeriod t time s).lines = s.lines ∧
    (State.measurePeriod t time s).choices = s.choices ∧ (State.measurePeriod t time s).pending = s.pending := by
  unfold State.measurePeriod
  repeat' split
  all_goals simp

@[simp] theorem State.startCut_frame (h : Head) (u : CalSetup) (s : State) :
    (State.startCut h u s).store = s.store ∧ (State.startCut h u s).ctu = s.ctu ∧
    (State.startCut h u s).job = s.job ∧ (State.startCut h u s).queues = s.queues ∧
    (State.startCut h u s).dbu = s.dbu ∧ (State.startCut h u s).fli = s.fli ∧
    (State.startCut h u s).rpt = s.rpt ∧ (State.startCut h u s).lines = s.lines ∧
    (State.startCut h u s).choices = s.choices ∧ (State.startCut h u s).pending = s.pending := by
  unfold State.startCut
  exact ⟨rfl, rfl, rfl, rfl, rfl, rfl, rfl, rfl, rfl, rfl⟩

@[simp] theorem State.endCut_frame (h : Head) (u : CalSetup) (s : State) :
    (State.endCut h u s).store = s.store ∧ (State.endCut h u s).ctu = s.ctu ∧
    (State.endCut h u s).job = s.job ∧ (State.endCut h u s).queues = s.queues ∧
    (State.endCut h u s).monitors = s.monitors ∧ (State.endCut h u s).dbu = s.dbu ∧
    (State.endCut h u s).lines = s.lines ∧ (State.endCut h u s).choices = s.choices ∧
    (State.endCut h u s).pending = s.pending := by
  unfold State.endCut
  repeat' split
  all_goals exact ⟨rfl, rfl, rfl, rfl, rfl, rfl, rfl, rfl, rfl⟩

@[simp] theorem State.calBoundary_frame (h : Head) (s : State) :
    (State.calBoundary h s).store = s.store ∧ (State.calBoundary h s).ctu = s.ctu ∧
    (State.calBoundary h s).job = s.job ∧ (State.calBoundary h s).queues = s.queues ∧
    (State.calBoundary h s).dbu = s.dbu ∧ (State.calBoundary h s).lines = s.lines ∧
    (State.calBoundary h s).choices = s.choices ∧ (State.calBoundary h s).pending = s.pending := by
  unfold State.calBoundary
  repeat' split
  all_goals simp

@[simp] theorem State.retireTrack_frame (h : Head) (r : TrackRecord) (s : State) :
    (State.retireTrack h r s).store = s.store ∧ (State.retireTrack h r s).ctu = s.ctu ∧
    (State.retireTrack h r s).job = s.job ∧ (State.retireTrack h r s).channels = s.channels ∧
    (State.retireTrack h r s).monitors = s.monitors ∧ (State.retireTrack h r s).cals = s.cals ∧
    (State.retireTrack h r s).lines = s.lines ∧ (State.retireTrack h r s).choices = s.choices ∧
    (State.retireTrack h r s).pending = s.pending := by
  unfold State.retireTrack
  dsimp only
  split
  · split <;> simp
  · simp

@[simp] theorem State.finishHead_frame (h : Head) (s : State) :
    (State.finishHead h s).store = s.store ∧ (State.finishHead h s).queues = s.queues ∧
    (State.finishHead h s).monitors = s.monitors ∧ (State.finishHead h s).cals = s.cals ∧
    (State.finishHead h s).dbu = s.dbu ∧ (State.finishHead h s).lines = s.lines ∧
    (State.finishHead h s).choices = s.choices ∧ (State.finishHead h s).pending = s.pending := by simp [State.finishHead]

@[simp] theorem State.retireHead_frame (h : Head) (s : State) :
    (State.retireHead h s).store = s.store ∧ (State.retireHead h s).monitors = s.monitors ∧
    (State.retireHead h s).cals = s.cals ∧ (State.retireHead h s).lines = s.lines ∧
    (State.retireHead h s).choices = s.choices ∧ (State.retireHead h s).pending = s.pending := by
  unfold State.retireHead
  dsimp only
  repeat' split
  all_goals simp

@[simp] theorem State.stopHead_frame (h : Head) (s : State) :
    (State.stopHead h s).store = s.store ∧ (State.stopHead h s).monitors = s.monitors ∧
    (State.stopHead h s).cals = s.cals ∧ (State.stopHead h s).lines = s.lines ∧
    (State.stopHead h s).choices = s.choices ∧ (State.stopHead h s).pending = s.pending := by
  unfold State.stopHead
  repeat' split
  all_goals simp

@[simp] theorem State.startTrack_frame (h : Head) (n : Nat) (s : State) :
    (State.startTrack h n s).store = s.store ∧ (State.startTrack h n s).ctu = s.ctu ∧
    (State.startTrack h n s).job = s.job ∧ (State.startTrack h n s).cals = s.cals ∧
    (State.startTrack h n s).fli = s.fli ∧ (State.startTrack h n s).rpt = s.rpt ∧
    (State.startTrack h n s).lines = s.lines ∧ (State.startTrack h n s).choices = s.choices ∧
    (State.startTrack h n s).pending = s.pending := by
  unfold State.startTrack
  repeat' split
  all_goals exact ⟨rfl, rfl, rfl, rfl, rfl, rfl, rfl, rfl, rfl⟩

@[simp] theorem State.startAll_frame (d : Head → Nat) (s : State) :
    (State.startAll d s).store = s.store ∧ (State.startAll d s).ctu = s.ctu ∧
    (State.startAll d s).job = s.job ∧ (State.startAll d s).cals = s.cals ∧
    (State.startAll d s).fli = s.fli ∧ (State.startAll d s).rpt = s.rpt ∧
    (State.startAll d s).lines = s.lines ∧ (State.startAll d s).choices = s.choices ∧
    (State.startAll d s).pending = s.pending := by
  have hh := forHeads_view (fun s : State => (s.store, s.ctu, s.job, s.cals, s.fli, s.rpt, s.lines, s.choices, s.pending))
    (fun h s => if s.active h then s.startTrack h (d h) else s) (fun h s => by split <;> simp) s
  simpa [State.startAll] using hh

@[simp] theorem State.go_frame (s : State) :
    (State.go s).store = s.store ∧ (State.go s).cals = s.cals ∧ (State.go s).lines = s.lines ∧
    (State.go s).choices = s.choices ∧ (State.go s).pending = s.pending := by simp [State.go]

@[simp] theorem State.waitHead_frame (h : Head) (s : State) :
    (State.waitHead h s).store = s.store ∧ (State.waitHead h s).ctu = s.ctu ∧
    (State.waitHead h s).job = s.job ∧ (State.waitHead h s).queues = s.queues ∧
    (State.waitHead h s).monitors = s.monitors ∧ (State.waitHead h s).cals = s.cals ∧
    (State.waitHead h s).dbu = s.dbu ∧ (State.waitHead h s).fli = s.fli ∧
    (State.waitHead h s).rpt = s.rpt ∧ (State.waitHead h s).lines = s.lines ∧
    (State.waitHead h s).choices = s.choices ∧ (State.waitHead h s).pending = s.pending := by
  unfold State.waitHead
  repeat' split
  all_goals exact ⟨rfl, rfl, rfl, rfl, rfl, rfl, rfl, rfl, rfl, rfl, rfl, rfl⟩

@[simp] theorem State.hold_frame (s : State) :
    (State.hold s).store = s.store ∧ (State.hold s).monitors = s.monitors ∧ (State.hold s).cals = s.cals ∧
    (State.hold s).lines = s.lines ∧ (State.hold s).choices = s.choices ∧
    (State.hold s).pending = s.pending := by
  have hh := forHeads_view (fun s : State => (s.store, s.monitors, s.cals, s.lines, s.choices, s.pending)) State.waitHead (fun h s => by simp)
    { s with ctu := { s.ctu with feedEn := false } }
  unfold State.hold
  dsimp only
  split <;> simpa using hh

@[simp] theorem State.decideRevolution_frame (s : State) :
    (State.decideRevolution s).store = s.store ∧ (State.decideRevolution s).cals = s.cals ∧
    (State.decideRevolution s).lines = s.lines ∧ (State.decideRevolution s).choices = s.choices ∧
    (State.decideRevolution s).pending = s.pending := by
  unfold State.decideRevolution
  repeat' split
  all_goals simp

@[simp] theorem State.boundaryBlocks_frame (b : Bool) (s : State) :
    (State.boundaryBlocks b s).store = s.store ∧ (State.boundaryBlocks b s).lines = s.lines ∧
    (State.boundaryBlocks b s).choices = s.choices ∧ (State.boundaryBlocks b s).pending = s.pending := by
  have h1 := forHeads_view (fun s : State => (s.store, s.lines, s.choices, s.pending)) State.calBoundary (fun h s => by simp) s
  have h2 := forHeads_view (fun s : State => (s.store, s.lines, s.choices, s.pending)) State.retireHead (fun h s => by simp)
  have h3 := forHeads_view (fun s : State => (s.store, s.lines, s.choices, s.pending)) State.stopHead (fun h s => by simp)
  unfold State.boundaryBlocks
  dsimp only
  split
  · have h4 := (h3 _).trans (h2 (s.failAllCals .encoderSlip))
    simpa using h4
  · have h4 := (h3 _).trans ((h2 _).trans h1)
    simpa using h4

@[simp] theorem State.boundary_frame (t : TimingSettings) (time : Nat) (x : Option Int) (s : State) :
    (State.boundary t time x s).store = s.store ∧ (State.boundary t time x s).lines = s.lines ∧
    (State.boundary t time x s).choices = s.choices ∧ (State.boundary t time x s).pending = s.pending := by
  unfold State.boundary
  dsimp only
  repeat' split
  all_goals simp

/-! ## Forward counts -/

@[simp] theorem State.enterStroke_frame (h : Head) (w : Nat) (c : Bool) (s : State) :
    (State.enterStroke h w c s).store = s.store ∧ (State.enterStroke h w c s).ctu = s.ctu ∧
    (State.enterStroke h w c s).job = s.job ∧ (State.enterStroke h w c s).channels = s.channels ∧
    (State.enterStroke h w c s).queues = s.queues ∧ (State.enterStroke h w c s).cals = s.cals ∧
    (State.enterStroke h w c s).dbu = s.dbu ∧ (State.enterStroke h w c s).lines = s.lines ∧
    (State.enterStroke h w c s).choices = s.choices ∧ (State.enterStroke h w c s).pending = s.pending := by
  unfold State.enterStroke
  dsimp only
  repeat' split
  all_goals exact ⟨rfl, rfl, rfl, rfl, rfl, rfl, rfl, rfl, rfl, rfl⟩

@[simp] theorem State.emit_frame (h : Head) (k : Stroke) (s : State) :
    (State.emit h k s).store = s.store ∧ (State.emit h k s).ctu = s.ctu ∧ (State.emit h k s).job = s.job ∧
    (State.emit h k s).queues = s.queues ∧ (State.emit h k s).cals = s.cals ∧
    (State.emit h k s).dbu = s.dbu ∧ (State.emit h k s).lines = s.lines ∧
    (State.emit h k s).choices = s.choices ∧ (State.emit h k s).pending = s.pending := by simp [State.emit]

@[simp] theorem State.trackCount_frame (h : Head) (r : TrackRecord) (a : Nat) (s : State) :
    (State.trackCount h r a s).store = s.store ∧ (State.trackCount h r a s).ctu = s.ctu ∧
    (State.trackCount h r a s).job = s.job ∧ (State.trackCount h r a s).cals = s.cals ∧
    (State.trackCount h r a s).dbu = s.dbu ∧ (State.trackCount h r a s).lines = s.lines ∧
    (State.trackCount h r a s).choices = s.choices ∧ (State.trackCount h r a s).pending = s.pending := by
  unfold State.trackCount
  dsimp only
  repeat' split
  all_goals first | exact ⟨rfl, rfl, rfl, rfl, rfl, rfl, rfl, rfl⟩ | simp

@[simp] theorem State.testCount_frame (h : Head) (u : CalSetup) (s : State) :
    (State.testCount h u s).store = s.store ∧ (State.testCount h u s).ctu = s.ctu ∧
    (State.testCount h u s).job = s.job ∧ (State.testCount h u s).queues = s.queues ∧
    (State.testCount h u s).cals = s.cals ∧ (State.testCount h u s).dbu = s.dbu ∧
    (State.testCount h u s).lines = s.lines ∧ (State.testCount h u s).choices = s.choices ∧
    (State.testCount h u s).pending = s.pending := by
  unfold State.testCount
  dsimp only
  repeat' split
  all_goals first | exact ⟨rfl, rfl, rfl, rfl, rfl, rfl, rfl, rfl, rfl⟩ | simp

@[simp] theorem State.countHead_frame (a : Nat) (h : Head) (s : State) :
    (State.countHead a h s).store = s.store ∧ (State.countHead a h s).ctu = s.ctu ∧
    (State.countHead a h s).job = s.job ∧ (State.countHead a h s).cals = s.cals ∧
    (State.countHead a h s).dbu = s.dbu ∧ (State.countHead a h s).lines = s.lines ∧
    (State.countHead a h s).choices = s.choices ∧ (State.countHead a h s).pending = s.pending := by
  unfold State.countHead
  repeat' split
  all_goals simp

@[simp] theorem State.actLost_frame (h : Head) (a : FaultAction) (s : State) :
    (State.actLost h a s).store = s.store ∧ (State.actLost h a s).monitors = s.monitors ∧
    (State.actLost h a s).lines = s.lines ∧ (State.actLost h a s).choices = s.choices ∧
    (State.actLost h a s).pending = s.pending := by simp [State.actLost]

@[simp] theorem State.countThenAct_frame (a : Nat) (h : Head) (s : State) :
    (State.countThenAct a h s).store = s.store ∧ (State.countThenAct a h s).lines = s.lines ∧
    (State.countThenAct a h s).choices = s.choices ∧ (State.countThenAct a h s).pending = s.pending := by
  unfold State.countThenAct
  repeat' split
  all_goals simp

@[simp] theorem State.countThenPark_frame (a : Nat) (h : Head) (s : State) :
    (State.countThenPark a h s).store = s.store ∧ (State.countThenPark a h s).lines = s.lines ∧
    (State.countThenPark a h s).choices = s.choices ∧ (State.countThenPark a h s).pending = s.pending := by
  unfold State.countThenPark
  repeat' split
  all_goals simp

@[simp] theorem State.countAll_frame (a : Nat) (s : State) :
    (State.countAll a s).store = s.store ∧ (State.countAll a s).lines = s.lines ∧
    (State.countAll a s).pending = s.pending := by
  have h1 := forHeads_view (fun s : State => (s.store, s.lines, s.pending)) (State.countThenAct a) (fun h s => by simp)
  have h2 := forHeads_view (fun s : State => (s.store, s.lines, s.pending)) (State.countThenPark a) (fun h s => by simp)
  have h3 := forHeads_view (fun s : State => (s.store, s.lines, s.pending)) (fun h (t : State) => if s.countAborts h then t.actLost h .aborted else t)
    (fun h t => by split <;> simp)
  unfold State.countAll
  dsimp only
  split
  · split
    · simpa using h1 { s with choices := s.choices + 1 }
    · have h4 := (h3 _).trans (h2 { s with choices := s.choices + 1 })
      simpa using h4
  · simpa using h1 s

/-! ## Cylinder timing -/

@[simp] theorem State.lineCount_frame (t : TimingSettings) (s : State) :
    (State.lineCount t s).store = s.store ∧ (State.lineCount t s).lines = s.lines ∧
    (State.lineCount t s).pending = s.pending := by simp [State.lineCount]

@[simp] theorem State.countCount_frame (t : TimingSettings) (time : Nat) (s : State) :
    (State.countCount t time s).store = s.store ∧ (State.countCount t time s).lines = s.lines ∧
    (State.countCount t time s).pending = s.pending := by
  unfold State.countCount
  repeat' split
  all_goals simp

@[simp] theorem State.autoStep_frame (t : TimingSettings) (time : Nat) (s : State) :
    (State.autoStep t time s).store = s.store ∧ (State.autoStep t time s).lines = s.lines ∧
    (State.autoStep t time s).pending = s.pending := by
  unfold State.autoStep
  repeat' split
  all_goals simp

@[simp] theorem State.forwardCount_frame (time : Nat) (s : State) :
    (State.forwardCount time s).store = s.store ∧ (State.forwardCount time s).lines = s.lines ∧
    (State.forwardCount time s).pending = s.pending := by
  unfold State.forwardCount
  repeat' split
  all_goals simp

@[simp] theorem State.indexPulse_frame (time : Nat) (s : State) :
    (State.indexPulse time s).store = s.store ∧ (State.indexPulse time s).lines = s.lines ∧
    (State.indexPulse time s).choices = s.choices ∧ (State.indexPulse time s).pending = s.pending := by
  unfold State.indexPulse State.linePulse State.resolvingPulse
  repeat' split
  all_goals simp

@[simp] theorem State.reverseCount_frame (s : State) :
    (State.reverseCount s).store = s.store ∧ (State.reverseCount s).monitors = s.monitors ∧
    (State.reverseCount s).lines = s.lines ∧ (State.reverseCount s).choices = s.choices ∧
    (State.reverseCount s).pending = s.pending := by
  unfold State.reverseCount
  repeat' split
  all_goals simp

@[simp] theorem State.stallExpiry_frame (s : State) :
    (State.stallExpiry s).store = s.store ∧ (State.stallExpiry s).monitors = s.monitors ∧
    (State.stallExpiry s).lines = s.lines ∧ (State.stallExpiry s).choices = s.choices ∧
    (State.stallExpiry s).pending = s.pending := by
  unfold State.stallExpiry
  repeat' split
  all_goals simp

@[simp] theorem State.actFeedFault_frame (s : State) :
    (State.actFeedFault s).store = s.store ∧ (State.actFeedFault s).monitors = s.monitors ∧
    (State.actFeedFault s).cals = s.cals ∧ (State.actFeedFault s).lines = s.lines ∧
    (State.actFeedFault s).choices = s.choices ∧ (State.actFeedFault s).pending = s.pending := by
  unfold State.actFeedFault
  repeat' split
  all_goals simp

/-! ## Job commands and lines -/

@[simp] theorem State.estopChange_frame (l : Bool) (s : State) :
    (State.estopChange l s).store = s.store ∧ (State.estopChange l s).monitors = s.monitors ∧
    (State.estopChange l s).lines = s.lines ∧ (State.estopChange l s).choices = s.choices ∧
    (State.estopChange l s).pending = s.pending := by
  unfold State.estopChange
  repeat' split
  all_goals simp

@[simp] theorem State.startJob_frame (s : State) :
    (State.startJob s).store = s.store ∧ (State.startJob s).monitors = s.monitors ∧
    (State.startJob s).cals = s.cals ∧ (State.startJob s).lines = s.lines ∧
    (State.startJob s).choices = s.choices ∧ (State.startJob s).pending = s.pending := by simp [State.startJob]

/-! ## Monitor samples -/

@[simp] theorem State.classified_frame (h : Head) (p : MonitorParams) (e : HistoryEntry) (v : Nat) (s : State) :
    (State.classified h p e v s).store = s.store ∧ (State.classified h p e v s).lines = s.lines ∧
    (State.classified h p e v s).choices = s.choices ∧ (State.classified h p e v s).pending = s.pending := by
  unfold State.classified
  dsimp only
  repeat' split
  all_goals simp

@[simp] theorem State.sample_frame (h : Head) (v : Nat) (t : BitVec 8) (s : State) :
    (State.sample h v t s).store = s.store ∧ (State.sample h v t s).lines = s.lines ∧
    (State.sample h v t s).choices = s.choices ∧ (State.sample h v t s).pending = s.pending := by
  unfold State.sample
  dsimp only
  repeat' split
  all_goals simp

/-! ## Frames -/

@[simp] theorem State.acceptPart_frame (h : Head) (p : List Byte) (s : State) :
    (State.acceptPart h p s).store = s.store ∧ (State.acceptPart h p s).ctu = s.ctu ∧
    (State.acceptPart h p s).job = s.job ∧ (State.acceptPart h p s).channels = s.channels ∧
    (State.acceptPart h p s).monitors = s.monitors ∧ (State.acceptPart h p s).cals = s.cals ∧
    (State.acceptPart h p s).dbu = s.dbu ∧ (State.acceptPart h p s).fli = s.fli ∧
    (State.acceptPart h p s).lines = s.lines ∧ (State.acceptPart h p s).choices = s.choices ∧
    (State.acceptPart h p s).pending = s.pending := by
  unfold State.acceptPart
  repeat' split
  all_goals exact ⟨rfl, rfl, rfl, rfl, rfl, rfl, rfl, rfl, rfl, rfl, rfl⟩

@[simp] theorem State.refusePart_frame (h : Head) (p : List Byte) (r : RefusalReason) (s : State) :
    (State.refusePart h p r s).store = s.store ∧ (State.refusePart h p r s).ctu = s.ctu ∧
    (State.refusePart h p r s).job = s.job ∧ (State.refusePart h p r s).channels = s.channels ∧
    (State.refusePart h p r s).monitors = s.monitors ∧ (State.refusePart h p r s).cals = s.cals ∧
    (State.refusePart h p r s).dbu = s.dbu ∧ (State.refusePart h p r s).lines = s.lines ∧
    (State.refusePart h p r s).choices = s.choices ∧ (State.refusePart h p r s).pending = s.pending := by
  unfold State.refusePart
  exact ⟨rfl, rfl, rfl, rfl, rfl, rfl, rfl, rfl, rfl, rfl⟩

@[simp] theorem State.refuseNoHead_frame (b : Byte) (p : List Byte) (s : State) :
    (State.refuseNoHead b p s).store = s.store ∧ (State.refuseNoHead b p s).ctu = s.ctu ∧
    (State.refuseNoHead b p s).job = s.job ∧ (State.refuseNoHead b p s).channels = s.channels ∧
    (State.refuseNoHead b p s).queues = s.queues ∧ (State.refuseNoHead b p s).monitors = s.monitors ∧
    (State.refuseNoHead b p s).cals = s.cals ∧ (State.refuseNoHead b p s).dbu = s.dbu ∧
    (State.refuseNoHead b p s).lines = s.lines ∧ (State.refuseNoHead b p s).choices = s.choices ∧
    (State.refuseNoHead b p s).pending = s.pending := by
  unfold State.refuseNoHead
  repeat' split
  all_goals exact ⟨rfl, rfl, rfl, rfl, rfl, rfl, rfl, rfl, rfl, rfl, rfl⟩

@[simp] theorem State.trackPart_frame (b : Byte) (p : List Byte) (s : State) :
    (State.trackPart b p s).store = s.store ∧ (State.trackPart b p s).ctu = s.ctu ∧
    (State.trackPart b p s).job = s.job ∧ (State.trackPart b p s).channels = s.channels ∧
    (State.trackPart b p s).monitors = s.monitors ∧ (State.trackPart b p s).cals = s.cals ∧
    (State.trackPart b p s).dbu = s.dbu ∧ (State.trackPart b p s).lines = s.lines ∧
    (State.trackPart b p s).choices = s.choices ∧ (State.trackPart b p s).pending = s.pending := by
  unfold State.trackPart
  repeat' split
  all_goals simp

@[simp] theorem State.tableFrame_frame (p : List Byte) (f : Nat → Nat → List Entry → Store → StoreAnswer) (s : State) :
    (State.tableFrame p f s).ctu = s.ctu ∧ (State.tableFrame p f s).job = s.job ∧
    (State.tableFrame p f s).channels = s.channels ∧ (State.tableFrame p f s).queues = s.queues ∧
    (State.tableFrame p f s).monitors = s.monitors ∧ (State.tableFrame p f s).cals = s.cals ∧
    (State.tableFrame p f s).dbu = s.dbu ∧ (State.tableFrame p f s).lines = s.lines ∧
    (State.tableFrame p f s).choices = s.choices ∧ (State.tableFrame p f s).pending = s.pending := by
  unfold State.tableFrame
  repeat' split
  all_goals exact ⟨rfl, rfl, rfl, rfl, rfl, rfl, rfl, rfl, rfl, rfl⟩

@[simp] theorem State.commitDone_frame (s : State) :
    (State.commitDone s).ctu = s.ctu ∧ (State.commitDone s).job = s.job ∧
    (State.commitDone s).channels = s.channels ∧ (State.commitDone s).queues = s.queues ∧
    (State.commitDone s).monitors = s.monitors ∧ (State.commitDone s).cals = s.cals ∧
    (State.commitDone s).dbu = s.dbu ∧ (State.commitDone s).lines = s.lines ∧
    (State.commitDone s).choices = s.choices ∧ (State.commitDone s).pending = s.pending := by
  unfold State.commitDone
  repeat' split
  all_goals exact ⟨rfl, rfl, rfl, rfl, rfl, rfl, rfl, rfl, rfl, rfl⟩

@[simp] theorem State.measured_frame (h : Head) (u : CalSetup) (l w : Nat) (s : State) :
    (State.measured h u l w s).store = s.store ∧ (State.measured h u l w s).ctu = s.ctu ∧
    (State.measured h u l w s).job = s.job ∧ (State.measured h u l w s).queues = s.queues ∧
    (State.measured h u l w s).monitors = s.monitors ∧ (State.measured h u l w s).dbu = s.dbu ∧
    (State.measured h u l w s).lines = s.lines ∧ (State.measured h u l w s).choices = s.choices ∧
    (State.measured h u l w s).pending = s.pending := by
  unfold State.measured State.runFit State.propose
  dsimp only
  repeat' split
  all_goals simp

@[simp] theorem State.intervalExpiry_frame (s : State) :
    (State.intervalExpiry s).store = s.store ∧ (State.intervalExpiry s).ctu = s.ctu ∧
    (State.intervalExpiry s).job = s.job ∧ (State.intervalExpiry s).channels = s.channels ∧
    (State.intervalExpiry s).queues = s.queues ∧ (State.intervalExpiry s).monitors = s.monitors ∧
    (State.intervalExpiry s).cals = s.cals ∧ (State.intervalExpiry s).dbu = s.dbu ∧
    (State.intervalExpiry s).lines = s.lines ∧ (State.intervalExpiry s).choices = s.choices ∧
    (State.intervalExpiry s).pending = s.pending := by
  unfold State.intervalExpiry State.lengthError
  split <;> exact ⟨rfl, rfl, rfl, rfl, rfl, rfl, rfl, rfl, rfl, rfl, rfl⟩

@[simp] theorem State.measurementExpiry_frame (h : Head) (s : State) :
    (State.measurementExpiry h s).store = s.store ∧ (State.measurementExpiry h s).ctu = s.ctu ∧
    (State.measurementExpiry h s).job = s.job ∧ (State.measurementExpiry h s).queues = s.queues ∧
    (State.measurementExpiry h s).monitors = s.monitors ∧ (State.measurementExpiry h s).dbu = s.dbu ∧
    (State.measurementExpiry h s).lines = s.lines ∧ (State.measurementExpiry h s).choices = s.choices ∧
    (State.measurementExpiry h s).pending = s.pending := by
  unfold State.measurementExpiry
  repeat' split
  all_goals exact ⟨rfl, rfl, rfl, rfl, rfl, rfl, rfl, rfl, rfl⟩

end Sys2Proof.Machine
end

