-- ==== Sys2Proof/Laws/Moves.lean ====
section
/-! SUPPORT. Every event is a chain of moves, each of which changes one block in a way that keeps what
Safety.lean says of that block. -/

namespace Sys2Proof.Machine

/-! ## The moves of each block -/

/-- A channel keeps its stroke tag, and its ENGAGE line follows its state. -/
def ChannelMove (c d : Channel) : Prop :=
  d.tag = c.tag ∧ (c.engage = engaged c.state → d.engage = engaged d.state)

/-- A head's Cut Monitor keeps the order of its history. -/
def MonitorMove (m n : Monitor) : Prop :=
  ∀ tag, historyOrdered tag m.history → historyOrdered tag n.history

/-- A Track Queue keeps its shape. -/
def QueueMove (q r : Queue) : Prop := q.Shaped → r.Shaped

/-- A proposal that appears lies in its ranges. -/
def CalMove (c d : Calibration) : Prop :=
  ∀ p, d.proposal = some p →
    c.proposal = some p ∨ (256 ≤ p.gain ∧ p.gain ≤ 16383 ∧ -4096 ≤ p.base ∧ p.base ≤ 4095)

/-- The Table Store keeps its form, and its tables stay checked. -/
def StoreMove (s : State) (t : Store) : Prop :=
  (s.store.Wf → t.Wf) ∧ (s.store.Wf → s.TablesChecked → State.TablesChecked { s with store := t })

/-- The link keeps its capacities, and the receive side its counts. -/
def FliMove (f g : Fli) : Prop :=
  (f.replies.length ≤ 8 → g.replies.length ≤ 8) ∧ (f.notices.length ≤ 32 → g.notices.length ≤ 32) ∧
    (f.receive.Counted → g.receive.Counted)

/-- A chain of moves. -/
inductive Moves : State → State → Prop where
  | refl (s : State) : Moves s s
  | trans {s t u : State} : Moves s t → Moves t u → Moves s u
  | free (ctu : Ctu) (job : Job) (dbu : Dbu) (rpt : Rpt) (lines : Lines) (choices : Nat) (s : State) :
      Moves s { s with ctu := ctu, job := job, dbu := dbu, rpt := rpt, lines := lines, choices := choices }
  | link (f : Fli) (s : State) : FliMove s.fli f → Moves s { s with fli := f }
  | channels (cs : PerHead Channel) (s : State) :
      (∀ h, ChannelMove (s.channels.get h) (cs.get h)) → Moves s { s with channels := cs }
  | monitors (ms : PerHead Monitor) (s : State) :
      (∀ h, MonitorMove (s.monitors.get h) (ms.get h)) → Moves s { s with monitors := ms }
  | queues (qs : PerHead Queue) (s : State) :
      (∀ h, QueueMove (s.queues.get h) (qs.get h)) → Moves s { s with queues := qs }
  | cals (cs : PerHead Calibration) (s : State) :
      (∀ h, CalMove (s.cals.get h) (cs.get h)) → Moves s { s with cals := cs }
  | store (t : Store) (s : State) : StoreMove s t → Moves s { s with store := t }
  | emit (h : Head) (k : Stroke) (s : State) : Moves s (s.emit h k)
  | fullReset (s : State) : Moves s s.fullReset

theorem ChannelMove.refl (c : Channel) : ChannelMove c c := ⟨rfl, id⟩
theorem MonitorMove.refl (m : Monitor) : MonitorMove m m := fun _ h => h
theorem QueueMove.refl (q : Queue) : QueueMove q q := id
theorem CalMove.refl (c : Calibration) : CalMove c c := fun _ h => Or.inl h

/-! ## Moves of one head -/

theorem Moves.channel (h : Head) (c : Channel) (s : State) (hc : ChannelMove (s.channels.get h) c) :
    Moves s { s with channels := s.channels.set h c } :=
  .channels _ s (fun k => by
    rw [PerHead.get_set]
    split
    · rename_i e
      subst e
      exact hc
    · exact ChannelMove.refl _)

theorem Moves.monitor (h : Head) (m : Monitor) (s : State) (hm : MonitorMove (s.monitors.get h) m) :
    Moves s { s with monitors := s.monitors.set h m } :=
  .monitors _ s (fun k => by
    rw [PerHead.get_set]
    split
    · rename_i e
      subst e
      exact hm
    · exact MonitorMove.refl _)

theorem Moves.queue (h : Head) (q : Queue) (s : State) (hq : QueueMove (s.queues.get h) q) :
    Moves s { s with queues := s.queues.set h q } :=
  .queues _ s (fun k => by
    rw [PerHead.get_set]
    split
    · rename_i e
      subst e
      exact hq
    · exact QueueMove.refl _)

theorem Moves.cal (h : Head) (c : Calibration) (s : State) (hc : CalMove (s.cals.get h) c) :
    Moves s { s with cals := s.cals.set h c } :=
  .cals _ s (fun k => by
    rw [PerHead.get_set]
    split
    · rename_i e
      subst e
      exact hc
    · exact CalMove.refl _)

theorem Moves.ofCtu (c : Ctu) (s : State) : Moves s { s with ctu := c } :=
  .free c s.job s.dbu s.rpt s.lines s.choices s
theorem Moves.ofJob (j : Job) (s : State) : Moves s { s with job := j } :=
  .free s.ctu j s.dbu s.rpt s.lines s.choices s
theorem Moves.ofDbu (d : Dbu) (s : State) : Moves s { s with dbu := d } :=
  .free s.ctu s.job d s.rpt s.lines s.choices s
theorem Moves.ofRpt (r : Rpt) (s : State) : Moves s { s with rpt := r } :=
  .free s.ctu s.job s.dbu r s.lines s.choices s
theorem Moves.ofLines (l : Lines) (s : State) : Moves s { s with lines := l } :=
  .free s.ctu s.job s.dbu s.rpt l s.choices s

/-- A step for one head that is a chain of moves is one for the four heads. -/
theorem Moves.forHeads (f : Head → State → State) (hf : ∀ h s, Moves s (f h s)) (s : State) :
    Moves s (forHeads f s) :=
  ((hf 0 _).trans (hf 1 _)).trans ((hf 2 _).trans (hf 3 _))

/-! ## Posting and answering -/

theorem State.post_moves (e : Event) (s : State) : Moves s (s.post e) := by
  refine .trans (.link (s.post e).fli s ⟨id, fun hn => ?_, id⟩)
    (.ofRpt (s.post e).rpt { s with fli := (s.post e).fli })
  unfold State.post
  dsimp only
  split
  · rename_i hs
    have h32 : s.fli.notices.length < 32 := of_decide_eq_true (Bool.and_eq_true_iff.mp hs).2
    rw [List.length_append, List.length_singleton]
    omega
  · exact hn

theorem State.postAll_moves (es : List Event) (s : State) : Moves s (s.postAll es) := by
  induction es generalizing s with
  | nil => exact .refl s
  | cons e es ih => exact (s.post_moves e).trans (ih (s.post e))

theorem State.queueReply_moves (f : ReturnFrame) (s : State) : Moves s (s.queueReply f) := by
  refine .trans (.link (s.queueReply f).fli s ⟨fun hr => ?_, id, id⟩)
    (.ofRpt (s.queueReply f).rpt { s with fli := (s.queueReply f).fli })
  unfold State.queueReply
  dsimp only
  split
  · rename_i hs
    have h8 : s.fli.replies.length < 8 := hs
    rw [List.length_append, List.length_singleton]
    omega
  · exact hr

theorem Fli.arbitrate_move (f : Fli) : FliMove f f.arbitrate := by
  unfold Fli.arbitrate
  split
  · exact ⟨id, id, id⟩
  · split
    · rename_i r rest hr
      refine ⟨fun h => ?_, id, id⟩
      rw [hr, List.length_cons] at h
      exact Nat.le_of_succ_le h
    · split
      · rename_i n rest hn
        refine ⟨id, fun h => ?_, id⟩
        rw [hn, List.length_cons] at h
        exact Nat.le_of_succ_le h
      · exact ⟨id, id, id⟩

theorem State.arbitrate_moves (s : State) : Moves s s.arbitrate := .link _ s s.fli.arbitrate_move

theorem State.linkErrorOf_moves (k : LinkErrorClass) (s : State) : Moves s (s.linkErrorOf k) := .ofRpt _ s

theorem serve_moves (f : State → State) (s t : State) (hf : Moves s (f s)) (ht : serve f s = .next t) :
    Moves s t := by
  unfold serve at ht
  split at ht
  · cases ht
    exact .refl s
  · cases ht
    exact hf.trans (f s).arbitrate_moves

theorem command_moves (c : CommandName) (tag : Half) (p : List Byte) (body : State → Answer) (s t : State)
    (hb : Moves s (body s).1) (ht : command c tag p body s = .next t) : Moves s t := by
  refine serve_moves _ s t ?_ ht
  refine Moves.trans ?_ (State.queueReply_moves _ _)
  unfold judge
  split
  · exact .refl s
  · split
    · exact hb
    · exact .refl s

/-! ## Channels, departures and the end of a job -/

theorem Channel.enter_move (st : ChannelState) (c : Channel) : ChannelMove c (c.enter st) :=
  ⟨rfl, fun _ => rfl⟩

theorem Channel.leave_move (st : ChannelState) (cause : StopCause) (c : Channel) :
    ChannelMove c (c.leave st cause) := ⟨rfl, fun _ => rfl⟩

theorem Queue.Shaped.nil (q : Queue) (hq : q.records = []) : q.Shaped :=
  { size := by rw [hq]; exact Nat.zero_le 4
    order := by rw [hq]; exact trivial
    newest := by intro r hr; rw [hq] at hr; cases hr
    last := by intro r hr; rw [hq] at hr; cases hr
    tones := by intro r hr; rw [hq] at hr; cases hr }

theorem Queue.emptied_move (q : Queue) : QueueMove q q.emptied := fun _ => Queue.Shaped.nil _ rfl

theorem State.depart_moves (h : Head) (st : ChannelState) (cause : StopCause) (s : State) :
    Moves s (s.depart h st cause) :=
  .trans (.channel h _ s (Channel.leave_move st cause _))
    (.trans (.queue h _ _ (Queue.emptied_move _)) (.free _ _ _ _ _ _ _))

theorem State.dropFeed_moves (s : State) : Moves s s.dropFeed := .ofCtu _ s

theorem State.enterJob_moves (st : JobState) (r : Option JobResult) (c : Option StopCause) (s : State) :
    Moves s (s.enterJob st r c) := (Moves.ofJob _ s).trans (State.post_moves _ _)

theorem State.endJob_moves (s : State) : Moves s s.endJob := by
  unfold State.endJob
  split
  · exact State.enterJob_moves _ _ _ s
  · exact .refl s

theorem State.leaveJob_moves (h : Head) (st : ChannelState) (cause : StopCause) (s : State) :
    Moves s (s.leaveJob h st cause) :=
  (s.depart_moves h st cause).trans
    ((State.dropFeed_moves _).trans ((State.post_moves _ _).trans (State.endJob_moves _)))

theorem State.abortJob_moves (cause : StopCause) (s : State) : Moves s (s.abortJob cause) := by
  unfold State.abortJob
  split
  · refine .trans (.trans (.trans (.trans (.ofJob _ s) (Moves.forHeads (State.haltIfActive cause) ?_ _))
      (.ofCtu _ _)) (State.postAll_moves _ _)) (State.post_moves _ _)
    intro h s
    unfold State.haltIfActive
    split
    · exact s.depart_moves h _ cause
    · exact .refl s
  · exact .refl s

theorem State.abortIfCutting_moves (cause : StopCause) (s : State) : Moves s (s.abortIfCutting cause) := by
  unfold State.abortIfCutting
  split
  · exact s.abortJob_moves cause
  · exact .refl s

/-! ## Calibrations and stylus faults -/

theorem State.updCal_moves (h : Head) (f : Calibration → Calibration) (s : State)
    (hf : CalMove (s.cals.get h) (f (s.cals.get h))) : Moves s (s.updCal h f) := .cal h _ s hf

theorem State.updChannel_moves (h : Head) (f : Channel → Channel) (s : State)
    (hf : ChannelMove (s.channels.get h) (f (s.channels.get h))) : Moves s (s.updChannel h f) :=
  .channel h _ s hf

theorem State.updMonitor_moves (h : Head) (f : Monitor → Monitor) (s : State)
    (hf : MonitorMove (s.monitors.get h) (f (s.monitors.get h))) : Moves s (s.updMonitor h f) :=
  .monitor h _ s hf

theorem State.updQueue_moves (h : Head) (f : Queue → Queue) (s : State)
    (hf : QueueMove (s.queues.get h) (f (s.queues.get h))) : Moves s (s.updQueue h f) := .queue h _ s hf

theorem State.updCounters_moves (h : Head) (f : HeadCounters → HeadCounters) (s : State) :
    Moves s (s.updCounters h f) := .ofRpt _ s

theorem State.updCells_moves (h : Head) (f : CellCounters → CellCounters) (s : State) :
    Moves s (s.updCells h f) := .ofRpt _ s

/-- A change of a calibration record that keeps its proposal. -/
theorem CalMove.keep (c d : Calibration) (hd : d.proposal = c.proposal) : CalMove c d :=
  fun _ h => Or.inl (hd ▸ h)

/-- A change of a calibration record that drops its proposal. -/
theorem CalMove.drop (c d : Calibration) (hd : d.proposal = none) : CalMove c d := by
  intro p h
  rw [hd] at h
  cases h

theorem State.endCal_moves (h : Head) (s : State) : Moves s (s.endCal h) :=
  (s.updCal_moves h _ (CalMove.keep _ _ rfl)).trans
    (State.updChannel_moves h _ _ (Channel.enter_move .off _))

theorem State.failCal_moves (h : Head) (c : CalCause) (d : CalDetail) (s : State) :
    Moves s (s.failCal h c d) := (s.post_moves _).trans (State.endCal_moves h _)

theorem State.failAllCals_moves (c : CalCause) (s : State) : Moves s (s.failAllCals c) :=
  Moves.forHeads _ (fun h s => by
    split
    · exact s.failCal_moves h c _
    · exact .refl s) s

theorem State.raiseFault_moves (h : Head) (f : StylusFault) (n : Nat) (t : BitVec 8) (v : Option Nat)
    (s : State) : Moves s (s.raiseFault h f n t v) :=
  (s.updCounters_moves h _).trans (State.post_moves _ _)

theorem State.actFault_moves (h : Head) (f : StylusFault) (a : FaultAction) (s : State) :
    Moves s (s.actFault h f a) := by
  unfold State.actFault
  split
  · exact .refl s
  · exact s.leaveJob_moves h _ _
  · exact s.abortJob_moves _
  · exact s.failCal_moves h _ _

/-! ## Sheds -/

theorem State.shedHead_moves (o : ShedOccasion) (b n : Nat) (x : Shed) (s : State) :
    Moves s (s.shedHead o b n x) := (s.post_moves _).trans (State.leaveJob_moves _ _ _ _)

theorem State.shedAll_moves (o : ShedOccasion) (b n : Nat) (xs : List Shed) (s : State) :
    Moves s (s.shedAll o b n xs) :=
  Moves.forHeads _ (fun h s => by
    split
    · exact s.shedHead_moves o b n _
    · exact .refl s) s

theorem State.changeBank_moves (b : BitVec 3) (s : State) : Moves s (s.changeBank b) :=
  (Moves.ofDbu _ s).trans ((State.post_moves _ _).trans (State.shedAll_moves _ _ _ _ _))

/-! ## The revolution boundary -/

theorem State.noteSlip_moves (t : TimingSettings) (x : Int) (s : State) : Moves s (s.noteSlip t x) := by
  unfold State.noteSlip
  dsimp only
  split
  · refine Moves.trans ?_ (State.post_moves _ _)
    split
    · exact .refl s
    · exact .ofRpt _ s
  · split
    · exact .refl s
    · exact .ofRpt _ s

theorem State.noteSpeed_moves (t : TimingSettings) (s : State) : Moves s (s.noteSpeed t) := by
  unfold State.noteSpeed
  dsimp only
  split
  · exact (Moves.ofRpt _ s).trans (State.post_moves _ _)
  · exact .ofRpt _ s

theorem State.measurePeriod_moves (t : TimingSettings) (time : Nat) (s : State) :
    Moves s (s.measurePeriod t time) := by
  unfold State.measurePeriod
  split
  · exact (Moves.ofCtu _ s).trans (State.noteSpeed_moves t _)
  · exact .ofCtu _ s

theorem MonitorMove.keep (m n : Monitor) (hn : n.history = m.history) : MonitorMove m n :=
  fun _ h => hn ▸ h

theorem State.startCut_moves (h : Head) (u : CalSetup) (s : State) : Moves s (s.startCut h u) :=
  (s.updCal_moves h _ (CalMove.keep _ _ rfl)).trans
    ((State.updChannel_moves h _ _ ⟨rfl, id⟩).trans
      (State.updMonitor_moves h _ _ (MonitorMove.keep _ _ rfl)))

theorem State.endCut_moves (h : Head) (u : CalSetup) (s : State) : Moves s (s.endCut h u) := by
  unfold State.endCut
  split
  · exact s.failCal_moves h _ _
  · exact (s.post_moves _).trans (State.updCal_moves h _ _ (CalMove.keep _ _ rfl))

theorem State.calBoundary_moves (h : Head) (s : State) : Moves s (s.calBoundary h) := by
  unfold State.calBoundary
  split
  · exact .refl s
  · exact s.startCut_moves h _
  · exact s.endCut_moves h _
  · exact .refl s

/-- The shape of a queue under a change of its head to CUTTING or within CUTTING. -/
theorem inOrder_replace (a b : TrackRecord) (rest : List TrackRecord)
    (hn : b.number = a.number) (hf : b.final = a.final) (hs : a.isFilling = false → b.isFilling = false)
    (h : inOrder (a :: rest)) : inOrder (b :: rest) := by
  match rest, h with
  | [], _ => exact trivial
  | c :: tail, h =>
    refine ⟨⟨?_, hs h.1.2.1, ?_, h.1.2.2.2⟩, h.2⟩
    · rw [hn]
      exact h.1.1
    · rw [hf]
      exact h.1.2.2.1

theorem inOrder_tail (a : TrackRecord) (rest : List TrackRecord) (h : inOrder (a :: rest)) : inOrder rest := by
  match rest, h with
  | [], _ => exact trivial
  | _ :: _, h => exact h.2

/-- A change of the queue head that keeps its number, FINAL flag and samples and does not make it FILLING or let
it leave FILLING. -/
theorem Queue.updHead_move (f : TrackRecord → TrackRecord) (q : Queue)
    (hf : ∀ r rest, q.records = r :: rest →
      (f r).number = r.number ∧ (f r).final = r.final ∧ (f r).samples = r.samples ∧
        (f r).isFilling = r.isFilling) : QueueMove q (q.updHead f) := by
  intro hq
  unfold Queue.updHead
  split
  · rename_i r rest hr
    obtain ⟨hn, hfin, hsam, hfil⟩ := hf r rest hr
    refine ⟨?_, ?_, ?_, ?_, ?_⟩
    · have := hq.size
      rw [hr] at this
      exact this
    · have := hq.order
      rw [hr] at this
      exact inOrder_replace r (f r) rest hn hfin (fun h => hfil.trans h) this
    · intro x hx
      have hnew := hq.newest
      rw [hr] at hnew
      match rest, hx with
      | [], hx =>
        have hx : f r = x := Option.some.inj hx
        subst hx
        have := hnew r rfl
        rw [hfil, hn, hfin]
        exact this
      | c :: tail, hx => exact hnew x hx
    · intro x hx h65
      have hl := hq.last
      rw [hr] at hl
      cases hx with
      | head => exact hfin.trans (hl r (List.mem_cons_self ..) (hn ▸ h65))
      | tail _ hx => exact hl x (List.mem_cons_of_mem _ hx) h65
    · intro x hx
      have hl := hq.tones
      rw [hr] at hl
      cases hx with
      | head => rw [hsam]; exact hl r (List.mem_cons_self ..)
      | tail _ hx => exact hl x (List.mem_cons_of_mem _ hx)
  · exact hq

/-- A queue that loses its oldest record keeps its shape. -/
theorem Queue.retired_move (q : Queue) : QueueMove q q.retired := by
  intro hq
  unfold Queue.retired
  match hr : q.records with
  | [] => exact Queue.Shaped.nil _ rfl
  | a :: rest =>
    refine ⟨?_, ?_, ?_, ?_, ?_⟩
    · have := hq.size
      rw [hr, List.length_cons] at this
      exact Nat.le_of_succ_le this
    · have := hq.order
      rw [hr] at this
      exact inOrder_tail a rest this
    · intro x hx
      have hnew := hq.newest
      rw [hr] at hnew
      match rest, hx with
      | c :: tail, hx => exact hnew x hx
    · intro x hx
      exact hq.last x (hr ▸ List.mem_cons_of_mem a hx)
    · intro x hx
      exact hq.tones x (hr ▸ List.mem_cons_of_mem a hx)

theorem State.retireTrack_moves (h : Head) (r : TrackRecord) (s : State) : Moves s (s.retireTrack h r) := by
  have hb : ∀ f : HeadCounters → HeadCounters,
      Moves s (((s.updCounters h f).updQueue h Queue.retired).setDemand h 0) := fun f =>
    (s.updCounters_moves h f).trans
      ((State.updQueue_moves h _ _ (Queue.retired_move _)).trans (.ofDbu _ _))
  unfold State.retireTrack
  dsimp only
  split
  · split
    · exact ((hb _).trans (State.post_moves _ _)).trans (State.post_moves _ _)
    · exact (hb _).trans (State.post_moves _ _)
  · exact (hb _).trans (State.post_moves _ _)

theorem State.finishHead_moves (h : Head) (s : State) : Moves s (s.finishHead h) :=
  (s.updChannel_moves h _ (Channel.leave_move _ _ _)).trans
    ((State.dropFeed_moves _).trans ((State.post_moves _ _).trans (State.endJob_moves _)))

theorem State.retireHead_moves (h : Head) (s : State) : Moves s (s.retireHead h) := by
  unfold State.retireHead
  dsimp only
  split
  · split
    · rename_i r _
      split
      · exact (s.retireTrack_moves h r).trans (State.finishHead_moves h _)
      · split
        · exact (s.retireTrack_moves h r).trans (State.leaveJob_moves h _ _ _)
        · exact s.retireTrack_moves h r
    · exact .refl s
  · exact .refl s

theorem State.stopHead_moves (h : Head) (s : State) : Moves s (s.stopHead h) := by
  unfold State.stopHead
  split
  · exact s.leaveJob_moves h _ _
  · exact .refl s

/-- The queue head that is ready is COMPLETE. -/
theorem Queue.ready_complete (q : Queue) (r : TrackRecord) (hr : q.ready = some r) :
    ∃ rest, q.records = r :: rest ∧ r.isComplete = true := by
  unfold Queue.ready at hr
  split at hr
  · rename_i a rest ha
    split at hr
    · rename_i hc
      cases hr
      exact ⟨rest, ha, hc⟩
    · cases hr
  · cases hr

theorem State.startTrack_moves (h : Head) (n : Nat) (s : State) : Moves s (s.startTrack h n) := by
  unfold State.startTrack
  split
  · rename_i r hr
    obtain ⟨rest, hrec, hc⟩ := Queue.ready_complete _ _ hr
    have hq := s.updQueue_moves h (Queue.updHead TrackRecord.begin) (Queue.updHead_move _ _ ?_)
    · exact ((hq.trans (State.updChannel_moves h (fun c => { c.enter .cutting with
        cellIndex := 0, accumulator := trackStart s.counts s.jobHalf r.number }) _
        ⟨rfl, fun _ => rfl⟩)).trans (State.updMonitor_moves h Monitor.clearRuns _
          (MonitorMove.keep _ _ rfl))).trans
            (Moves.ofDbu { s.dbu with demand := s.dbu.demand.set h n } _)
    intro x xs hx
    rw [hrec] at hx
    cases hx
    refine ⟨rfl, rfl, rfl, ?_⟩
    unfold TrackRecord.isComplete at hc
    unfold TrackRecord.isFilling TrackRecord.begin
    split at hc
    · cases hc
    · rename_i m hm
      simp only
    · cases hc
  · exact .refl s

theorem State.startAll_moves (d : Head → Nat) (s : State) : Moves s (s.startAll d) :=
  Moves.forHeads _ (fun h s => by
    split
    · exact s.startTrack_moves h _
    · exact .refl s) s

theorem State.go_moves (s : State) : Moves s s.go :=
  (s.shedAll_moves _ _ _ _).trans ((State.startAll_moves _ _).trans (.ofCtu _ _))

theorem State.waitHead_moves (h : Head) (s : State) : Moves s (s.waitHead h) := by
  unfold State.waitHead
  split
  · exact s.updChannel_moves h _ (Channel.enter_move _ _)
  · exact .refl s

theorem State.hold_moves (s : State) : Moves s s.hold := by
  unfold State.hold
  dsimp only
  have hc : ∀ (e : Event) (c : Ctu) (r : Rpt), Moves s
      { (forHeads State.waitHead { s with ctu := { s.ctu with feedEn := false } }).post e with
        ctu := c, rpt := r } := fun e c r =>
    (Moves.ofCtu _ s).trans ((Moves.forHeads _ (fun h s => s.waitHead_moves h) _).trans
      ((State.post_moves e _).trans (.free _ _ _ _ _ _ _)))
  split
  · exact (hc _ _ _).trans (State.abortJob_moves _ _)
  · exact hc _ _ _

theorem State.decideRevolution_moves (s : State) : Moves s s.decideRevolution := by
  unfold State.decideRevolution
  split
  · split
    · exact s.go_moves
    · exact s.hold_moves
  · exact .refl s

theorem State.boundaryBlocks_moves (b : Bool) (s : State) : Moves s (s.boundaryBlocks b) := by
  unfold State.boundaryBlocks
  dsimp only
  refine Moves.trans (Moves.trans ?_ (Moves.forHeads _ (fun h s => s.retireHead_moves h) _))
    (Moves.forHeads _ (fun h s => s.stopHead_moves h) _)
  split
  · exact s.failAllCals_moves _
  · exact Moves.forHeads _ (fun h s => s.calBoundary_moves h) s

theorem State.boundary_moves (t : TimingSettings) (time : Nat) (x : Option Int) (s : State) :
    Moves s (s.boundary t time x) := by
  have hb : ∀ (b : Bool) (n : State), Moves s n →
      Moves s ((State.measurePeriod t time { n with ctu := { n.ctu with aligned := true } }).boundaryBlocks
        b) := fun b n hn =>
    (hn.trans (.ofCtu _ n)).trans ((State.measurePeriod_moves t time _).trans (State.boundaryBlocks_moves b _))
  unfold State.boundary
  cases x with
  | none =>
    dsimp only
    split
    · exact (hb _ s (.refl s)).trans (State.abortJob_moves _ _)
    · exact (hb _ s (.refl s)).trans (State.decideRevolution_moves _)
  | some x =>
    dsimp only
    split
    · exact (hb _ _ (s.noteSlip_moves t x)).trans (State.abortJob_moves _ _)
    · exact (hb _ _ (s.noteSlip_moves t x)).trans (State.decideRevolution_moves _)

/-! ## Forward counts -/

theorem State.setAccumulator_moves (h : Head) (v : Nat) (s : State) : Moves s (s.setAccumulator h v) :=
  s.updChannel_moves h _ ⟨rfl, id⟩

theorem Queue.inProgress_cutting (q : Queue) (r : TrackRecord) (hr : q.inProgress = some r) :
    ∃ rest, q.records = r :: rest ∧ r.isCutting = true := by
  unfold Queue.inProgress at hr
  split at hr
  · rename_i a rest ha
    split at hr
    · rename_i hc
      cases hr
      exact ⟨rest, ha, hc⟩
    · cases hr
  · cases hr

theorem Queue.addWord_move (w : Nat) (q : Queue) : QueueMove q (q.updHead (TrackRecord.addWord w)) :=
  Queue.updHead_move _ q (fun r rest _ => by
    cases hst : r.state <;> simp [TrackRecord.addWord, TrackRecord.isFilling, hst])

theorem State.trackCount_moves (h : Head) (r : TrackRecord) (a : Nat) (s : State) :
    Moves s (s.trackCount h r a) := by
  unfold State.trackCount
  dsimp only
  split
  · split
    · exact s.setAccumulator_moves h _
    · exact (s.setAccumulator_moves h _).trans ((State.updCells_moves h _ _).trans
        ((State.updQueue_moves h _ _ (Queue.addWord_move _ _)).trans (.emit h _ _)))
  · exact .refl s

theorem State.testCount_moves (h : Head) (u : CalSetup) (s : State) : Moves s (s.testCount h u) := by
  unfold State.testCount
  dsimp only
  split
  · split
    · exact s.setAccumulator_moves h _
    · exact (s.setAccumulator_moves h _).trans (.emit h _ _)
  · exact .refl s

theorem State.countHead_moves (a : Nat) (h : Head) (s : State) : Moves s (s.countHead a h) := by
  unfold State.countHead
  split
  · exact .refl s
  · exact s.trackCount_moves h _ a
  · exact s.testCount_moves h _

theorem State.countThenAct_moves (a : Nat) (h : Head) (s : State) : Moves s (s.countThenAct a h) := by
  unfold State.countThenAct
  split
  · exact (s.countHead_moves a h).trans (State.actFault_moves h _ _ _)
  · exact s.countHead_moves a h

theorem State.countThenPark_moves (a : Nat) (h : Head) (s : State) : Moves s (s.countThenPark a h) := by
  unfold State.countThenPark
  split
  · exact (s.countHead_moves a h).trans (State.actFault_moves h _ _ _)
  · exact s.countHead_moves a h

theorem State.countAll_moves (a : Nat) (s : State) : Moves s (s.countAll a) := by
  have hc : Moves s { s with choices := s.choices + 1 } := .free s.ctu s.job s.dbu s.rpt s.lines _ s
  unfold State.countAll
  dsimp only
  split
  · split
    · exact hc.trans (Moves.forHeads _ (fun h s => s.countThenAct_moves a h) _)
    · refine hc.trans ((Moves.forHeads _ (fun h s => s.countThenPark_moves a h) _).trans
        (Moves.forHeads _ (fun h t => ?_) _))
      split
      · exact State.actFault_moves h _ _ t
      · exact .refl t
  · exact Moves.forHeads _ (fun h s => s.countThenAct_moves a h) s

/-! ## Cylinder timing and lines -/

theorem State.lineCount_moves (t : TimingSettings) (s : State) : Moves s (s.lineCount t) :=
  (Moves.ofCtu _ s).trans (State.countAll_moves _ _)

theorem State.forwardCount_moves (time : Nat) (s : State) : Moves s (s.forwardCount time) := by
  unfold State.forwardCount
  split
  · exact .refl s
  · rename_i t _
    split
    · exact s.lineCount_moves t
    · unfold State.countCount
      split
      · exact (Moves.ofCtu _ s).trans (State.boundary_moves t time _ _)
      · exact s.lineCount_moves t
    · unfold State.autoStep
      split
      · exact (Moves.ofCtu _ s).trans (State.boundary_moves t time _ _)
      · exact (Moves.ofCtu _ s).trans (State.lineCount_moves t _)

theorem State.indexPulse_moves (time : Nat) (s : State) : Moves s (s.indexPulse time) := by
  unfold State.indexPulse
  split
  · exact .refl s
  · rename_i t _
    split
    · exact (Moves.ofCtu _ s).trans (State.boundary_moves t time _ _)
    · exact .refl s
    · exact (Moves.ofCtu _ s).trans (State.boundary_moves t time _ _)

theorem State.reverseCount_moves (s : State) : Moves s s.reverseCount := by
  unfold State.reverseCount
  split
  · exact .refl s
  · exact (Moves.ofRpt _ s).trans ((State.post_moves _ _).trans
      ((State.abortIfCutting_moves _ _).trans (State.failAllCals_moves _ _)))

theorem State.stallExpiry_moves (s : State) : Moves s s.stallExpiry := by
  unfold State.stallExpiry
  split
  · exact .refl s
  · split
    · exact (Moves.ofCtu _ s).trans ((State.post_moves _ _).trans
        ((State.abortIfCutting_moves _ _).trans (State.failAllCals_moves _ _)))
    · exact .refl s

theorem State.actFeedFault_moves (s : State) : Moves s s.actFeedFault := by
  unfold State.actFeedFault
  split
  · exact s.abortIfCutting_moves _
  · exact .refl s

theorem State.estopChange_moves (l : Bool) (s : State) : Moves s (s.estopChange l) := by
  unfold State.estopChange
  split
  · exact s.post_moves _
  · exact (s.post_moves _).trans ((State.abortJob_moves _ _).trans (State.failAllCals_moves _ _))

/-! ## Monitor samples -/

/-- A history whose tags are the same keeps its order. -/
theorem MonitorMove.tags (m n : Monitor) (hl : n.history.length = m.history.length)
    (ht : ∀ i (hi : i < n.history.length), n.history[i].tag = (m.history[i]'(hl ▸ hi)).tag) :
    MonitorMove m n := by
  intro tag h
  refine ⟨hl ▸ h.1, fun i hi => ?_⟩
  rw [ht i hi, h.2 i (hl ▸ hi), hl]

theorem Monitor.pair_move (tag : BitVec 8) (m : Monitor) : MonitorMove m (m.pair tag) := by
  refine MonitorMove.tags m _ (by simp [Monitor.pair]) (fun i hi => ?_)
  simp only [Monitor.pair, List.getElem_map]
  split <;> rfl

theorem State.classified_moves (h : Head) (p : MonitorParams) (e : HistoryEntry) (v : Nat) (s : State) :
    Moves s (s.classified h p e v) := by
  have hc := fun k : StrokeClass =>
    (s.updMonitor_moves h (Monitor.noteClass p k) (MonitorMove.keep _ _ rfl)).trans
      (State.updCounters_moves h (countClass p e k v) _)
  unfold State.classified
  dsimp only
  split
  · refine Moves.trans ?_ ((State.raiseFault_moves h _ _ _ _ _).trans (State.actFault_moves h _ _ _))
    split
    · exact (hc _).trans (State.post_moves _ _)
    · exact hc _
  · split
    · exact (hc _).trans (State.post_moves _ _)
    · exact hc _

theorem State.sample_moves (h : Head) (v : Nat) (t : BitVec 8) (s : State) : Moves s (s.sample h v t) := by
  unfold State.sample
  dsimp only
  split
  · exact s.updCells_moves h _
  · split
    · exact s.updCells_moves h _
    · split
      · exact (s.updMonitor_moves h _ (Monitor.pair_move t _)).trans (State.classified_moves h _ _ _ _)
      · exact s.updMonitor_moves h _ (Monitor.pair_move t _)

end Sys2Proof.Machine
end

