-- ==== Sys2Proof/Laws/QueueShape.lean ====
section
/-! SUPPORT. The shape of a Track Queue under the arrival of a part and under TRACK DISCARD. -/

namespace Sys2Proof.Machine

/-! ## Records in order -/

/-- A FILLING record of a list in order is its last. -/
theorem inOrder_filling_last (l : List TrackRecord) (r : TrackRecord) (h : inOrder l)
    (hf : l.find? TrackRecord.isFilling = some r) : ∃ init, l = init ++ [r] ∧ r.isFilling = true := by
  induction l with
  | nil => cases hf
  | cons a rest ih =>
    match rest, h, ih with
    | [], _, _ =>
      refine ⟨[], ?_⟩
      have hr := List.find?_some hf
      have hm := List.mem_of_find?_eq_some hf
      rw [List.mem_singleton] at hm
      subst hm
      exact ⟨rfl, hr⟩
    | b :: tail, h, ih =>
      have ha : a.isFilling = false := h.1.2.1
      rw [List.find?_cons, ha] at hf
      obtain ⟨init, hi, hr⟩ := ih h.2 hf
      exact ⟨a :: init, by rw [hi]; rfl, hr⟩

/-- The last record of a list in order may be replaced by one of its number that is not CUTTING. -/
theorem inOrder_replace_last (init : List TrackRecord) (a b : TrackRecord) (h : inOrder (init ++ [a]))
    (hn : b.number = a.number) (hc : b.isCutting = false) : inOrder (init ++ [b]) := by
  induction init with
  | nil => exact trivial
  | cons x rest ih =>
    match rest, h, ih with
    | [], h, _ =>
      refine ⟨⟨?_, h.1.2.1, h.1.2.2.1, hc⟩, trivial⟩
      rw [hn]
      exact h.1.1
    | y :: tail, h, ih => exact ⟨h.1, ih h.2⟩

/-- A record that stands before another may be put behind a list in order that ends with it. -/
theorem inOrder_concat (l : List TrackRecord) (b : TrackRecord) (h : inOrder l)
    (hb : ∀ a, l.getLast? = some a → follows a b) : inOrder (l ++ [b]) := by
  induction l with
  | nil => exact trivial
  | cons x rest ih =>
    match rest, h, hb, ih with
    | [], _, hb, _ => exact ⟨hb x rfl, trivial⟩
    | y :: tail, h, hb, ih => exact ⟨h.1, ih h.2 hb⟩

/-- A list in order without its last record is in order. -/
theorem inOrder_init (init : List TrackRecord) (a : TrackRecord) (h : inOrder (init ++ [a])) :
    inOrder init ∧ ∀ x, init.getLast? = some x → follows x a := by
  induction init with
  | nil => exact ⟨trivial, fun x hx => nomatch hx⟩
  | cons x rest ih =>
    match rest, h, ih with
    | [], h, _ =>
      refine ⟨trivial, fun z hz => ?_⟩
      have hz : x = z := Option.some.inj hz
      subst hz
      exact h.1
    | y :: tail, h, ih => exact ⟨⟨h.1, (ih h.2).1⟩, (ih h.2).2⟩

/-! ## An accepted part -/

theorem TrackRecord.append_number (v : List Nat) (r : TrackRecord) : (r.append v).number = r.number := rfl
theorem TrackRecord.append_final (v : List Nat) (r : TrackRecord) : (r.append v).final = r.final := rfl
theorem TrackRecord.append_samples (v : List Nat) (r : TrackRecord) :
    (r.append v).samples = r.samples ++ v := rfl

theorem TrackRecord.append_notCutting (v : List Nat) (r : TrackRecord) : (r.append v).isCutting = false := by
  unfold TrackRecord.isCutting TrackRecord.append
  dsimp only
  split
  · rfl
  · rfl
  · rename_i h
    split at h <;> cases h

theorem TrackRecord.append_state (v : List Nat) (r : TrackRecord) :
    (r.append v).isComplete = !(r.append v).isFilling := by
  unfold TrackRecord.isComplete TrackRecord.isFilling
  have hc := TrackRecord.append_notCutting v r
  unfold TrackRecord.isCutting at hc
  split at hc
  · rename_i h
    simp only [Bool.not_true]
  · rename_i h
    simp only [Bool.not_false]
  · cases hc

theorem storedSamples_le (p : List Byte) (v : Nat) (hv : v ∈ storedSamples p) : v ≤ 1000 := by
  unfold storedSamples at hv
  obtain ⟨x, _, hx⟩ := List.mem_map.mp hv
  unfold clampTone at hx
  omega

theorem Queue.noteCompletion_records (r : TrackRecord) (q : Queue) :
    (q.noteCompletion r).records = q.records := by
  unfold Queue.noteCompletion
  split <;> rfl

/-- The conditions on the newest record after a part was appended to it. -/
theorem Queue.noteCompletion_newest (r : TrackRecord) (q : Queue) (hs : r.isComplete = !r.isFilling)
    (he : r.number = q.expected) (hf : q.finalSeen = false) (h65 : r.number = 65535 → r.final = true) :
    if r.isFilling then r.number = (q.noteCompletion r).expected ∧ (q.noteCompletion r).finalSeen = false
    else (q.noteCompletion r).finalSeen = r.final ∧
      (r.final = false → (q.noteCompletion r).expected = r.number + 1) := by
  unfold Queue.noteCompletion
  rw [hs]
  cases hfil : r.isFilling with
  | true =>
    simp only [Bool.not_true, Bool.false_eq_true, ↓reduceIte]
    exact ⟨he, hf⟩
  | false =>
    simp only [Bool.not_false, ↓reduceIte, Bool.false_eq_true]
    rw [hf]
    refine ⟨Bool.false_or _, fun hfin => ?_⟩
    rw [if_neg]
    intro h
    rw [h65 h] at hfin
    cases hfin

/-- What an accepted part keeps when it continues the FILLING record (R55, R56). -/
theorem Queue.accept_continue (p : List Byte) (q : Queue) (r : TrackRecord) (hq : q.Shaped)
    (hr : q.filling? = some r) : (q.accept p).Shaped := by
  obtain ⟨init, hi, hfill⟩ := inOrder_filling_last q.records r hq.order hr
  have hlast : q.records.getLast? = some r := by rw [hi, List.getLast?_concat]
  have hnew := hq.newest r hlast
  rw [hfill, if_pos rfl] at hnew
  have hmem : r ∈ q.records := by rw [hi]; exact List.mem_append_right _ (List.mem_singleton.mpr rfl)
  have hrec : (q.accept p).records = init ++ [r.append (storedSamples p)] := by
    unfold Queue.accept
    simp only [hr]
    rw [Queue.noteCompletion_records]
    unfold Queue.replaceNewest
    rw [hi, List.dropLast_concat]
  have hsub : ∀ x ∈ init, x ∈ q.records := fun x hx => by rw [hi]; exact List.mem_append_left _ hx
  refine ⟨?_, ?_, ?_, ?_, ?_⟩
  · have := hq.size
    rw [hi] at this
    rw [hrec]
    simpa using this
  · rw [hrec]
    exact inOrder_replace_last init r _ (hi ▸ hq.order) rfl (TrackRecord.append_notCutting _ _)
  · intro x hx
    rw [hrec, List.getLast?_concat] at hx
    have hx : r.append (storedSamples p) = x := Option.some.inj hx
    subst hx
    have := Queue.noteCompletion_newest (r.append (storedSamples p))
      (q.replaceNewest (r.append (storedSamples p))) (TrackRecord.append_state _ _) hnew.1 hnew.2
      (hq.last r hmem)
    unfold Queue.accept
    simp only [hr]
    exact this
  · intro x hx h65
    rw [hrec, List.mem_append, List.mem_singleton] at hx
    cases hx with
    | inl hx => exact hq.last x (hsub x hx) h65
    | inr hx =>
      subst hx
      exact hq.last r hmem h65
  · intro x hx v hv
    rw [hrec, List.mem_append, List.mem_singleton] at hx
    cases hx with
    | inl hx => exact hq.tones x (hsub x hx) v hv
    | inr hx =>
      subst hx
      rw [TrackRecord.append_samples, List.mem_append] at hv
      cases hv with
      | inl hv => exact hq.tones r hmem v hv
      | inr hv => exact storedSamples_le p v hv

/-- What the checks of an opening part that pass say (R57, R58). -/
theorem openReason_none (p : List Byte) (q : Queue) (h : openReason p q = none) :
    partOffset p = 0 ∧ q.finalSeen = false ∧ partTrack p = q.expected ∧
      (partTrack p = 65535 → partFinal p = true) ∧ q.records.length < 4 := by
  unfold openReason at h
  split at h
  · cases h
  · rename_i h0
    split at h
    · cases h
    · rename_i h1
      split at h
      · split at h <;> cases h
      · rename_i h2
        split at h
        · cases h
        · rename_i h3
          split at h
          · cases h
          · rename_i h4
            refine ⟨Decidable.not_not.mp h0, Bool.eq_false_iff.mpr h1, Decidable.not_not.mp h2, ?_, ?_⟩
            · intro h65
              cases hp : partFinal p with
              | true => rfl
              | false => exact absurd ⟨h65, hp⟩ h3
            · exact Nat.lt_of_not_le h4

/-- What an accepted part keeps when it opens a track (R57, R58). -/
theorem Queue.accept_open (p : List Byte) (q : Queue) (hq : q.Shaped) (hr : q.filling? = none)
    (ho : openReason p q = none) : (q.accept p).Shaped := by
  obtain ⟨_, hseen, htrack, h65, hsize⟩ := openReason_none p q ho
  have hrec : (q.accept p).records = q.records ++ [(newRecord p).append (storedSamples p)] := by
    unfold Queue.accept
    simp only [hr]
    rw [Queue.noteCompletion_records]
  have hnofill : ∀ x ∈ q.records, x.isFilling = false := fun x hx => by
    have := List.find?_eq_none.mp hr x hx
    exact Bool.eq_false_iff.mpr this
  refine ⟨?_, ?_, ?_, ?_, ?_⟩
  · rw [hrec, List.length_append, List.length_singleton]
    omega
  · rw [hrec]
    refine inOrder_concat _ _ hq.order (fun a ha => ?_)
    have hmem := List.mem_of_getLast? ha
    have hnew := hq.newest a ha
    rw [hnofill a hmem] at hnew
    simp only [Bool.false_eq_true, ↓reduceIte] at hnew
    have hfin : a.final = false := hnew.1 ▸ hseen
    refine ⟨?_, hnofill a hmem, hfin, TrackRecord.append_notCutting _ _⟩
    exact htrack.trans (hnew.2 hfin)
  · intro x hx
    rw [hrec, List.getLast?_concat] at hx
    have hx : (newRecord p).append (storedSamples p) = x := Option.some.inj hx
    subst hx
    have := Queue.noteCompletion_newest ((newRecord p).append (storedSamples p))
      { q with records := q.records ++ [(newRecord p).append (storedSamples p)] }
      (TrackRecord.append_state _ _) htrack hseen h65
    unfold Queue.accept
    simp only [hr]
    exact this
  · intro x hx hx65
    rw [hrec, List.mem_append, List.mem_singleton] at hx
    cases hx with
    | inl hx => exact hq.last x hx hx65
    | inr hx =>
      subst hx
      exact h65 hx65
  · intro x hx v hv
    rw [hrec, List.mem_append, List.mem_singleton] at hx
    cases hx with
    | inl hx => exact hq.tones x hx v hv
    | inr hx =>
      subst hx
      rw [TrackRecord.append_samples] at hv
      exact storedSamples_le p v hv

/-- A part that passes its checks keeps the shape of the queue. -/
theorem State.acceptPart_queue (h : Head) (p : List Byte) (s : State) (hp : s.partReason h p = none) :
    QueueMove (s.queues.get h) ((s.queues.get h).accept p) := by
  intro hq
  unfold State.partReason at hp
  split at hp
  · cases hp
  · split at hp
    · cases hp
    · split at hp
      · cases hp
      · split at hp
        · rename_i r hr
          exact Queue.accept_continue p _ r hq hr
        · rename_i hr
          exact Queue.accept_open p _ hq hr hp

theorem State.trackPart_moves (b : Byte) (p : List Byte) (s : State) : Moves s (s.trackPart b p) := by
  unfold State.trackPart
  split
  · exact s.post_moves _
  · rename_i h _
    split
    · exact (s.updQueue_moves h _ (fun hq => ⟨hq.size, hq.order, hq.newest, hq.last, hq.tones⟩)).trans
        ((State.updCounters_moves h _ _).trans (State.post_moves _ _))
    · rename_i hp
      exact (s.updQueue_moves h _ (s.acceptPart_queue h p hp)).trans (State.updCounters_moves h _ _)

/-! ## TRACK DISCARD -/

/-- Discarding the FILLING record keeps the shape of the queue (R66). -/
theorem Queue.discardFilling_move (q : Queue) : QueueMove q q.discardFilling := by
  intro hq
  cases hf : q.filling? with
  | none =>
    have hrec : q.discardFilling = q := by
      unfold Queue.discardFilling
      have : q.records.filter (fun r => !r.isFilling) = q.records := List.filter_eq_self.mpr (fun x hx => by
        have := List.find?_eq_none.mp hf x hx
        simpa using this)
      rw [this]
    rw [hrec]
    exact hq
  | some r =>
    obtain ⟨init, hi, hfill⟩ := inOrder_filling_last q.records r hq.order hf
    obtain ⟨hinit, hprev⟩ := inOrder_init init r (hi ▸ hq.order)
    have hlast : q.records.getLast? = some r := by rw [hi, List.getLast?_concat]
    have hnew := hq.newest r hlast
    rw [hfill, if_pos rfl] at hnew
    have hno : ∀ (l : List TrackRecord) (a : TrackRecord), inOrder (l ++ [a]) →
        l.filter (fun r => !r.isFilling) = l := by
      intro l a hl
      refine List.filter_eq_self.mpr (fun x hx => ?_)
      induction l with
      | nil => cases hx
      | cons y rest ih =>
        match rest, hl, hx, ih with
        | [], hl, hx, _ =>
          rw [List.mem_singleton] at hx
          subst hx
          simp [hl.1.2.1]
        | z :: tail, hl, hx, ih =>
          cases hx with
          | head => simp [hl.1.2.1]
          | tail _ hx => exact ih hl.2 hx
    have hrec : q.discardFilling.records = init := by
      unfold Queue.discardFilling
      rw [hi, List.filter_append, hno init r (hi ▸ hq.order)]
      simp [hfill]
    have hsub : ∀ x ∈ init, x ∈ q.records := fun x hx => by rw [hi]; exact List.mem_append_left _ hx
    refine ⟨?_, ?_, ?_, ?_, ?_⟩
    · have := hq.size
      rw [hi, List.length_append, List.length_singleton] at this
      rw [hrec]
      omega
    · rw [hrec]
      exact hinit
    · intro x hx
      rw [hrec] at hx
      obtain ⟨hnum, hxf, hfin, _⟩ := hprev x hx
      rw [hxf]
      simp only [Bool.false_eq_true, ↓reduceIte]
      refine ⟨hnew.2.trans hfin.symm, fun _ => ?_⟩
      show q.expected = x.number + 1
      rw [← hnew.1, hnum]
    · intro x hx
      rw [hrec] at hx
      exact hq.last x (hsub x hx)
    · intro x hx
      rw [hrec] at hx
      exact hq.tones x (hsub x hx)

end Sys2Proof.Machine
end

