-- ==== Sys2Proof/Laws/Store.lean ====
section
/-! SUPPORT. The slots of the Table Store read after each of its operations, and the common course of an event
and of a command. -/

namespace Sys2Proof.Machine

/-! ## Slots -/

@[simp] theorem Store.slot_setSlot (t : Store) (i j : Nat) (v : Slot) :
    (t.setSlot i v).slot j = if i = j ∧ i < 37 then v else t.slot j := by
  unfold Store.setSlot Store.slot
  by_cases hj : j < 37
  · by_cases hij : i = j
    · subst hij
      simp [hj]
    · simp [hj, hij]
  · have : ¬ (i = j ∧ i < 37) := fun h => hj (h.1 ▸ h.2)
    simp [hj, this]

theorem Store.slot_above (t : Store) (i : Nat) (hi : 37 ≤ i) : t.slot i = Slot.blank := by
  simp [Store.slot, Nat.not_lt.2 hi]

@[simp] theorem Store.slot_mapSlots (f : Slot → Slot) (t : Store) (i : Nat) :
    (t.mapSlots f).slot i = if i < 37 then f (t.slot i) else Slot.blank := by
  unfold Store.mapSlots Store.slot
  by_cases hi : i < 37 <;> simp [hi]

@[simp] theorem Store.slot_clearCursorOn (t : Store) (i j : Nat) : (t.clearCursorOn i).slot j = t.slot j := rfl

@[simp] theorem Store.slot_afterReset (i : Nat) : Store.afterReset.slot i = Slot.blank := by
  unfold Store.afterReset Store.slot
  by_cases hi : i < 37 <;> simp [hi]

theorem Store.slot_unbind (t : Store) (i : Nat) : t.unbind.slot i = (t.slot i).unbound := by
  by_cases hi : i < 37
  · simp [Store.unbind, hi]
  · rw [Store.slot_above t i (Nat.le_of_not_lt hi), Store.slot_above _ i (Nat.le_of_not_lt hi)]
    rfl

@[simp] theorem Store.setSlot_owner (t : Store) (i : Nat) (v : Slot) : (t.setSlot i v).owner = t.owner := rfl
@[simp] theorem Store.setSlot_image (t : Store) (i : Nat) (v : Slot) : (t.setSlot i v).image = t.image := rfl
@[simp] theorem Store.setSlot_commit (t : Store) (i : Nat) (v : Slot) : (t.setSlot i v).commit = t.commit := rfl
@[simp] theorem Store.setSlot_cursor (t : Store) (i : Nat) (v : Slot) : (t.setSlot i v).cursor = t.cursor := rfl

@[simp] theorem Store.bind_owner (l : List Nat) (t : Store) : (t.bind l).owner = t.owner := by
  induction l generalizing t with
  | nil => rfl
  | cons i rest ih => exact ih _

@[simp] theorem Store.bind_commit (l : List Nat) (t : Store) : (t.bind l).commit = t.commit := by
  induction l generalizing t with
  | nil => rfl
  | cons i rest ih => exact ih _

/-- Binding changes the state of the slots named, and nothing of their contents. -/
theorem Store.slot_bind (l : List Nat) (t : Store) (i : Nat) :
    (t.bind l).slot i = if i ∈ l ∧ i < 37 then { t.slot i with state := .bound } else t.slot i := by
  induction l generalizing t with
  | nil => simp [Store.bind]
  | cons j rest ih =>
    have := ih (t.setSlot j { t.slot j with state := .bound })
    unfold Store.bind at this ⊢
    rw [List.foldl_cons, this, Store.slot_setSlot]
    by_cases hij : j = i
    · subst hij
      by_cases hj : j < 37 <;> by_cases hr : j ∈ rest <;> simp [hj, hr]
    · by_cases hr : i ∈ rest <;> simp [hij, hr, Ne.symm hij]

theorem Slot.blank_wf : Slot.blank.Wf := ⟨rfl, rfl, rfl⟩

theorem Slot.holding_wf (st : SlotState) (entries : List Entry) (h : st = .valid ∨ st = .bound) :
    (Slot.holding st entries).Wf := by
  rcases h with rfl | rfl <;> rfl

theorem Slot.unbound_wf (v : Slot) (h : v.Wf) : v.unbound.Wf := by
  unfold Slot.unbound
  split
  · rename_i hb
    unfold Slot.Wf at h ⊢
    rw [hb] at h
    exact h
  · exact h

/-! ## The course of an event -/

/-- Outside a held reset an event acts, and then the return arbiter. -/
theorem serve_live (f : State → State) (s : State) (h : s.inReset = false) :
    serve f s = .next (f s).arbitrate := by
  simp [serve, h]

/-- In a held reset an event is ignored. -/
theorem serve_held (f : State → State) (s : State) (h : s.inReset = true) : serve f s = .next s := by
  simp [serve, h]

/-- A command that passes the three common checks is answered as its own block answers it. -/
theorem command_taken (c : CommandName) (tag : Half) (p : List Byte) (body : State → Answer) (s : State)
    (hr : s.inReset = false) (hl : p.length = commandLength c) (ha : commandAvailable c s.job.state = true) :
    command c tag p body s =
      .next (((body s).1.queueReply (replyFrame (commandCode c) tag (body s).2.1 (body s).2.2)).arbitrate) := by
  simp [command, serve, hr, judge, hl, ha, State.answered]

/-- A command of the wrong length leaves everything but its reply. -/
theorem command_wrongLength (c : CommandName) (tag : Half) (p : List Byte) (body : State → Answer) (s : State)
    (hr : s.inReset = false) (hl : p.length ≠ commandLength c) :
    command c tag p body s =
      .next ((s.queueReply (replyFrame (commandCode c) tag .length (be16 (commandLength c)))).arbitrate) := by
  simp [command, serve, hr, judge, hl, State.answered]

/-- A command not available in the job state leaves everything but its reply. -/
theorem command_unavailable (c : CommandName) (tag : Half) (p : List Byte) (body : State → Answer) (s : State)
    (hr : s.inReset = false) (hl : p.length = commandLength c) (ha : commandAvailable c s.job.state = false) :
    command c tag p body s =
      .next ((s.queueReply
        (replyFrame (commandCode c) tag .state (stateRefusal c s.job.state))).arbitrate) := by
  simp [command, serve, hr, judge, hl, ha, State.answered]

end Sys2Proof.Machine
end

