-- ==== Sys2Proof/Tests/Slice0.lean ====
section
/-! SUPPORT. The model's own tests: ill-formed terms, the manual's worked figures, and for every statement that has
hypotheses a concrete state and operands that meet them, clause by clause. -/

namespace Sys2Proof.Tests

set_option Elab.async false

open Sys2Proof.Machine Sys2Proof.Claims

/-! ## Small states -/

/-- The state a step of the part leaves. -/
def after (c : Instr) (s : State) : State :=
  match exec c s with
  | .next t => t
  | .fault _ => s
  | .refused _ => s

/-- E = 4096, LINE. -/
def timing : TimingSettings := ⟨4096, .line, 4, 600000, 10, 200, 1500⟩

/-- The curve of the examples of chapter 4. -/
def curve : List Entry := [4, 0, 0x0032001e, 0x01f400fa, 0x03e801a4]

/-- C = 64 under HALF. -/
def screen : List Entry := [64, 1]

/-- A head calibration with idle power 300 and power span 900. -/
def headcal : List Entry :=
  [7534, BitVec.ofInt 32 (-304), 50, 600, 0, 1182, 1000, 40, 10, 20, 3, 4, 300, 900, 4, 40]

/-- The budgets of section 8.10. -/
def budgets : List Entry := [600, 1000, 1600, 2400, 2800, 3200, 4000, 4800]

/-- An even runout ring. -/
def ring : List Entry := List.replicate 256 5

/-- The tables of a job of head 0, in one slot state. -/
def stocked (st : SlotState) : Store :=
  [(0, curve), (16, screen), (24, ring), (32, headcal), (36, budgets)].foldl
    (fun t x => t.setSlot x.1 (Slot.holding st x.2)) Store.afterReset

/-- A job of head 0 with priority 0. -/
def record (policy : FaultPolicy) : JobRecord :=
  ⟨7, 16, ⟨some ⟨0, some 24, 0, policy⟩, none, none, none⟩, 0, 2, 1, 1⟩

/-- In SETUP, timed and defined, with bank 7 selected. -/
def ready : State :=
  { State.reset with
    store := stocked .valid
    ctu := ⟨some timing, some .line, 0, 0, true, 600000, true, some 0, true, 0, false⟩
    job := ⟨some (record .parkHead), .setup, none, none⟩
    dbu := Dbu.afterReset 7 }

/-- A track of one sample. -/
def track (number : Nat) (final : Bool) (st : RecordState) : TrackRecord :=
  ⟨number, 1, final, some (5, 7), [500], st⟩

/-- A job in a state, with head 0 in a channel state and its queue. -/
def inJob (j : JobState) (c : ChannelState) (records : List TrackRecord) : State :=
  { ready with
    store := stocked .bound
    job := { ready.job with state := j }
    channels := ready.channels.set 0 { Channel.afterReset with state := c, engage := engaged c }
    queues := ready.queues.set 0 ⟨records, 1, 0, false, none⟩
    monitors := ready.monitors.set 0 { Monitor.afterReset with params := some (hcMonitor headcal) } }

/-- Head 0 cuts track 0. -/
def cutting : State :=
  { inJob .running .cutting [track 0 false (.cutting 500 0 0)] with
    ctu := { ready.ctu with feedEn := true }
    dbu := { ready.dbu with demand := ready.dbu.demand.set 0 750 } }

/-- Head 0 in a test cut. -/
def setup : CalSetup := ⟨800, 3000, 24, 300, 2500, 10, 120, 64, headcal⟩

/-- Head 0 in a phase of a calibration. -/
def inCal (phase : CalPhase) (timer : Option Nat) : State :=
  { ready with
    channels := ready.channels.set 0 { Channel.afterReset with state := .calibrating, engage := true }
    cals := ready.cals.set 0 ⟨phase, none, none, timer, none⟩ }

/-- The part held in reset. -/
def held : State := { State.reset with lines := { State.reset.lines with resetN := false } }

/-- The feed link in a receive state. -/
def receiving (r : Receive) : State := { State.reset with fli := { State.reset.fli with receive := r } }

/-! ## Terms of `Instr` that spell no event -/

/-- Every command with parameters longer than a frame can carry. -/
def tooLong : List Instr :=
  ([.identify, .statusSnapshot, .reset, .timingSet, .tableDiscard, .tableCommit, .tableErase, .tableReadStart,
    .tableReadContinue, .jobDefine, .arm, .disarm, .start, .stop, .abort, .release, .headPark, .trackDiscard,
    .calibrate, .calMeasure, .calApply, .calCancel, .stylusWear, .noticeMask, .noticeSkip, .countersRead,
    .countersClear] : List (Half → List Byte → Instr)).map (fun c => c 0 (List.replicate 4094 0))

theorem test_long_commands_ill_formed : tooLong.all (fun c => !c.wellFormed) = true := by decide +kernel

theorem test_longest_command_well_formed : (Instr.identify 0 (List.replicate 4093 0)).wellFormed = true := by
  decide +kernel

theorem test_known_code_ill_formed :
    (Instr.unknownCommand 0x31 0).wellFormed = false ∧ (Instr.unknownCommand 0x7f 0).wellFormed = true := by
  decide

theorem test_whole_command_ill_formed :
    (Instr.shortCommandPayload [1, 2, 3]).wellFormed = false ∧
      (Instr.shortCommandPayload [1, 2]).wellFormed = true := by
  decide

theorem test_long_part_ill_formed : (Instr.trackPart 0 (List.replicate 4097 0)).wellFormed = false := by
  decide +kernel

theorem test_open_flag_ill_formed :
    (Instr.tableDataOpen [0, 0, 0, 0]).wellFormed = false ∧ (Instr.tableData [0, 1, 0, 0]).wellFormed = false ∧
      (Instr.tableDataOpen [0, 1, 0, 0]).wellFormed = true ∧ (Instr.tableData [0]).wellFormed = true := by
  decide

theorem test_long_table_frames_ill_formed :
    (Instr.tableDataOpen (0 :: 1 :: List.replicate 4095 0)).wellFormed = false ∧
      (Instr.tableData (List.replicate 4097 0)).wellFormed = false := by
  decide +kernel

theorem test_known_kind_ill_formed :
    (Instr.kindError 0x12).wellFormed = false ∧ (Instr.kindError 0x91).wellFormed = true := by
  decide

/-- No row of the table has bits. -/
theorem test_no_word_spells_an_event : decodeTableWord 16 0x1234 = none := by decide

/-! ## Figures of the manual -/

/-- R82's table. -/
theorem test_gradation_depths :
    [0, 20, 50, 100, 300, 500, 999, 1000].map (gradationDepth curve) = [0, 12, 30, 54, 152, 250, 419, 420] := by
  decide

/-- R84: with a cutoff of 50, tone 90 closes and tone 91 cuts. -/
theorem test_cutoff_tone :
    (computeCell headcal curve none 4096 0 0 90).closed = true ∧
      (computeCell headcal curve none 4096 0 0 91).closed = false := by
  decide

/-- R86: with wr 4, W 3327 gives 12 du and W 3328 gives 13; a cap of 40 is reached at 10240. -/
theorem test_wear_offset :
    [3071, 3072, 3327, 3328, 10239, 10240, 65535].map (fun w => wearOffset w 4 40) =
      [11, 12, 12, 13, 39, 40, 40] := by
  decide

/-- R81: S = 1600 and C = 4800. -/
theorem test_sample_pick : [0, 2, 2397, 2399].map (fun k => sampleIndex k 1600 4800) = [0, 0, 799, 799] := by decide

/-- R159: means 650 and 200. -/
theorem test_track_demand : trackDemand headcal 650 = 885 ∧ trackDemand headcal 200 = 480 := by decide

/-- Section 8.10: demands 660, 885, 750 and 480 with priorities 0, 1, 3 and 3 under 2400, and the later fall of the
supply to 600. -/
theorem test_shedding_order :
    shedOrder (⟨0, 1, 3, 3⟩ : PerHead Nat).get (⟨660, 885, 750, 480⟩ : PerHead Nat).get (fun _ => true) 2400 = [⟨3, 480, 1, 2295⟩] ∧
      shedOrder (⟨0, 1, 3, 3⟩ : PerHead Nat).get (⟨660, 885, 0, 0⟩ : PerHead Nat).get (fun h => h.val < 2) 600 =
        [⟨1, 885, 1, 660⟩, ⟨0, 660, 2, 0⟩] := by
  decide

/-- Section 4.12 and R74: E = 19200 and C = 4800 give a stroke every fourth count. -/
theorem test_stroke_counts :
    let s := fun (start : Nat) =>
      { inCal (.cut { setup with cells := 4800 }) none with
        ctu := { ready.ctu with settings := some { timing with counts := 19200 } }
        channels := ready.channels.set 0 { Channel.afterReset with state := .calibrating, accumulator := start } }
    (channelAfter 0 [1, 2] (s (trackStart 19200 true 0))).cellIndex = 0 ∧
      (channelAfter 0 [1, 2, 3] (s (trackStart 19200 true 0))).cellIndex = 1 ∧
      (channelAfter 0 [1] (s (trackStart 19200 true 1))).cellIndex = 1 := by
  decide +kernel

/-- R33: folded slips. -/
theorem test_slip_folds : foldSlip 19200 3 = 3 ∧ foldSlip 19200 19198 = -2 ∧ foldSlip 19200 9600 = -9600 := by decide

/-- R37: a period of 606,600 us against 600,000 deviates by 11 per mille. -/
theorem test_speed_deviation :
    speedDeviation 600000 606600 = 11 ∧ speedDeviation 600000 606599 = 10 ∧ speedDeviation 600000 593400 = 11 := by
  decide

/-- R171, R174, R183 and R190: the frame of an IDENTIFY with tag 1234h, byte for byte, puts its reply on the line. -/
theorem test_identify_frame :
    (match feed ([0xb5, 0x4e, 0x13, 0x0f, 0x00, 0x03, 0x01, 0x12, 0x34] ++
        be16 (crc [0x13, 0x0f, 0x00, 0x03, 0x01, 0x12, 0x34]).toNat) State.reset with
      | .next t => t.fli.line
      | .fault _ => none
      | .refused _ => none) = some (replyFrame 0x01 0x1234 .ok identityBytes) := by
  decide +kernel

/-- R12, R15: the screen of a committed slot and its checksum. -/
theorem test_commit_completion :
    let s := after .commitCompletion
      { State.reset with store := { State.reset.store with owner := some 16, image := [4800, 1], commit := some 16 } }
    (s.store.slot 16) = ⟨.valid, [4800, 1], 4801, 14401⟩ ∧ s.store.owner = none ∧ s.store.commit = none := by
  decide +kernel

/-- R105: an abort halts the cutting head, drops FEED_EN and frees its queue. -/
theorem test_abort :
    let s := after (.abort 1 []) cutting
    s.job.state = .aborted ∧ s.channelState 0 = .halted ∧ s.ctu.feedEn = false ∧
      (s.queues.get 0).records = [] ∧ s.dbu.demand.get 0 = 0 := by
  decide +kernel

/-- R98, R99: ARM of a defined job binds its five slots and engages its head. -/
theorem test_arm :
    let s := after (.arm 1 []) ready
    s.job.state = .armed ∧ s.channelState 0 = .primed ∧
      [0, 16, 24, 32, 36].all (fun i => (s.store.slot i).state == .bound) = true := by
  decide +kernel

/-! ## Witnesses: the hypotheses of the statements are met -/

theorem test_witness_StepRunsFrontEventOrIdles :
    { State.reset with pending := [.stall, .identify 1 []] }.pending = .stall :: [.identify 1 []] ∧
      State.reset.pending = [] := by
  decide

theorem test_witness_FullResetHoldsPartUntilReleased :
    (∃ l : Lines, l = { State.reset.lines with resetN := false, powerHeld := true } ∧
      l.resetN = false ∧ l.powerHeld = true) ∧
    (held.lines.resetN = false ∧ held.lines.powerHeld = false) ∧
    (∃ l : Lines, l = { State.reset.lines with powerHeld := true } ∧ l.resetN = true ∧ l.powerHeld = true) ∧
    held.inReset = true ∧ movesLine .stall = false := by
  refine ⟨⟨_, rfl, by decide⟩, by decide, ⟨_, rfl, by decide⟩, by decide, by decide⟩

theorem test_witness_SoftResetKeepsTablesSettingsAndWear : cutting.inReset = false := by decide

/-- One receive state for each clause, at the lengths 0, 4096 and 4097 and at a good and a bad CRC. -/
theorem test_witness_FeedByteMovesReceiver :
    (receiving .hunt).inReset = false ∧ (receiving .hunt).fli.receive = .hunt ∧
    (receiving .sync).fli.receive = .sync ∧
    (receiving (.header [0x13, 0x0f])).fli.receive = .header [0x13, 0x0f] ∧ [0x13, 0x0f].length < 3 ∧
    (receiving (.header [0x13, 0x0f, 0x10])).fli.receive = .header [0x13, 0x0f, 0x10] ∧
    (after (.feedByte 0x00) (receiving (.header [0x13, 0x0f, 0x10]))).fli.receive = .payload 0x13 0x0f 4096 [] ∧
    (after (.feedByte 0x01) (receiving (.header [0x13, 0x0f, 0x10]))).rpt.lengthErrors = 1 ∧
    (after (.feedByte 0x00) (receiving (.header [0x13, 0x0f, 0x00]))).fli.receive = .check 0x13 0x0f [] none ∧
    (receiving (.payload 0x13 0x0f 3 [1, 0])).fli.receive = .payload 0x13 0x0f 3 [1, 0] ∧ [1, 0].length < 3 ∧
    (receiving (.check 0x13 0x0f [1] none)).fli.receive = .check 0x13 0x0f [1] none ∧
    (after (.feedByte 0x00) (receiving (.check 0x13 0x0f [1] (some 0x00)))).rpt.crcErrors = 1 := by
  decide +kernel

theorem test_witness_ByteIntervalAbandonsFrame :
    (receiving .sync).inReset = false ∧ (receiving .hunt).fli.receive = .hunt ∧
    (receiving .sync).fli.receive = .sync ∧ (receiving (.header [])).fli.receive ≠ .hunt ∧
    (receiving (.header [])).fli.receive ≠ .sync := by
  decide

theorem test_witness_GoodFrameIsRowOfItsKind :
    (List.replicate 4096 (0 : Byte)).length ≤ 4096 ∧
    frameRow 0x11 0x00 [] = .trackPart 0x00 [] ∧
    frameRow 0x12 0x0f [5, 1] = .tableDataOpen [5, 1] ∧ frameRow 0x12 0x0f [5] = .tableData [5] ∧
    frameRow 0x13 0x0f [commandCode .abort, 0x12, 0x34, 9] = .abort 0x1234 [9] ∧
    (0x35, .abort 0x1234 [9]) ∈ codeRows 0x1234 [9] ∧ 0x7f ∉ (codeRows 1 []).map Prod.fst ∧
    frameRow 0x13 0x0f [0x7f, 0, 1] = .unknownCommand 0x7f 1 ∧
    frameRow 0x13 0x0f [0x31, 0] = .shortCommandPayload [0x31, 0] ∧ frameRow 0x14 0x0f [] = .kindError 0x14 := by
  decide +kernel

theorem test_witness_FrameSentIsFrameTaken :
    State.reset.inReset = false ∧ State.reset.fli.receive = .hunt ∧
      (List.replicate 4096 (0 : Byte)).length ≤ 4096 := by
  decide +kernel

/-- A frame under way with its last payload byte due, and the step that takes it. -/
theorem test_witness_LinkStaysOrderly :
    let s := { receiving (.payload 0x13 0x0f 4096 (List.replicate 4095 0)) with pending := [.feedByte 0] }
    s.fli.receive.Counted ∧ s.fli.Orderly ∧ ∃ t, step s = .next t := by
  refine ⟨⟨?_, Nat.le_refl _⟩, ⟨Nat.zero_le _, Nat.zero_le _, fun _ => ⟨rfl, rfl⟩⟩, ⟨_, rfl⟩⟩
  rw [List.length_replicate]
  decide

theorem test_witness_RefusedCommandsChangeNothing :
    ready.inReset = false ∧ ([0] : List Byte).length ≠ commandLength .arm ∧
    ([] : List Byte).length = commandLength .start ∧ commandAvailable .start ready.job.state = false ∧
    ([] : List Byte).length = commandLength .arm ∧ commandAvailable .arm cutting.job.state = false := by
  decide

theorem test_witness_RepliesGoBeforeNotices :
    let f : ReturnFrame := replyFrame 0x01 0 .ok []
    let s := fun r n l => { State.reset with fli := ⟨.hunt, List.replicate r f, List.replicate n f, l⟩ }
    (s 7 0 none).fli.replies.length < 8 ∧ 8 ≤ (s 8 0 none).fli.replies.length ∧
    (s 0 0 (some f)).fli.line = some f ∧ (s 1 1 (some f)).inReset = false ∧
    (s 1 1 (some f)).fli.replies = f :: [] ∧
    ((s 0 1 (some f)).fli.replies = [] ∧ (s 0 1 (some f)).fli.notices = f :: []) ∧
    ((s 0 0 (some f)).fli.replies = [] ∧ (s 0 0 (some f)).fli.notices = []) := by
  decide +kernel

theorem test_witness_TableRequestsAreCheckedForForm :
    State.reset.inReset = false ∧ 36 ≤ 36 ∧ 36 < (37 : Byte).toNat ∧ ([5, 1, 0] : List Byte).length < 4 ∧
    ([1, 2, 3] : List Byte).length % 4 ≠ 0 ∧ ([] : List Byte).length = 0 ∧
    1024 < (List.replicate 1028 (0 : Byte)).length := by
  decide +kernel

/-- Frames at slot 36, offset 255 and 256 entries, and at a VALID runout slot of 256 entries. -/
theorem test_witness_OpenFrameClaimsStaging :
    ready.inReset = false ∧ 255 < 65536 ∧ 1 ≤ (List.replicate 256 (0 : Entry)).length ∧
    (List.replicate 256 (0 : Entry)).length ≤ 256 ∧ (ready.store.slot 24).state = .valid ∧
    (ready.store.slot 24).entries.length = 256 ∧
    (after (.tableDataOpen (tablePayload 24 1 255 [300, 7])) ready).store.image.getD 255 0 = 200 ∧
    (after (.tableDataOpen (tablePayload 24 1 255 [300, 7])) ready).store.image.getD 0 0 = 7 := by
  decide +kernel

theorem test_witness_LaterFrameContinuesImage :
    let s := { ready with store := { ready.store with owner := some 24, image := List.replicate 256 0 } }
    s.inReset = false ∧ s.store.owner = some 24 ∧ s.store.image.length = 256 := by
  decide +kernel

/-- Curves of the worked cases of R13, and the entries of R14's worked case. -/
theorem test_witness_InvalidNamesFirstOffendingEntry :
    let equal : List Entry := [4, 0, 0x0032001e, 0x0032001e, 0x03e801a4]
    let above : List Entry := [3, 0, 0x04b00000, 0x05140000]
    let deep := headcal.set 2 700
    entryInt [33] 0 = 33 ∧ imageFault .gradation [] = some 0 ∧ imageFault .gradation [33] = some 0 ∧
    entryInt [4, 0] 0 = (4 : Nat) ∧ imageFault .gradation [4, 0] = some 2 ∧
    imageFault .gradation (curve ++ [0]) = some 5 ∧ equal.length = 4 + 1 ∧
    toneOf equal 2 ≤ toneOf equal (2 - 1) ∧ imageFault .gradation equal = some 3 ∧
    1000 < toneOf above 1 ∧ imageFault .gradation above = some 2 ∧
    [64].length ≠ (rangesOf [64] .screen).length ∧ deep.length = (rangesOf deep .headcal).length ∧
    (rangesOf deep .headcal)[3]? = some (700, 1000) ∧ entryInt deep 3 < 700 ∧ imageFault .headcal deep = some 3 ∧
    imageFault .budget (budgets.set 7 65536) = some 7 := by
  decide +kernel

theorem test_witness_CommitStartsCopyOfValidImage :
    ready.inReset = false ∧ (36 : Byte).toNat ≤ 36 ∧ imageFault .screen screen = none ∧
    imageFault .screen [64] = some 1 := by
  decide

theorem test_witness_CommitCompletionFillsSlot :
    let s := { ready with store := ready.store.startCommit 16 }
    s.inReset = false ∧ s.store.commit = some 16 := by
  decide +kernel

theorem test_witness_ReadBackGivesSlotInBlocks :
    let s := { ready with store := { ready.store with cursor := some ⟨24, 192⟩ } }
    s.inReset = false ∧ (24 : Byte).toNat ≤ 36 ∧ State.reset.store.cursor = none ∧
    s.store.cursor = some ⟨24, 192⟩ ∧ (readEntries (s.store.slot 24) 192).length = 64 ∧
    readEnd (s.store.slot 24) 192 = true ∧ readEnd (s.store.slot 24) 191 = false := by
  decide +kernel

/-- A proposal for head 3 on a VALID slot. -/
theorem test_witness_CalApplyWritesProposal :
    let s := { ready with
      store := ready.store.setSlot 35 (Slot.holding .valid headcal)
      cals := ready.cals.set 3 { Calibration.afterReset with proposal := some ⟨256, -4096⟩ } }
    s.inReset = false ∧ 3 < (4 : Byte).toNat ∧ (3 : Byte).toNat = (3 : Head).val ∧
    ((after (.calApply 1 [3]) s).store.slot 35).entries.take 2 = [256, BitVec.ofInt 32 (-4096)] ∧
    ((after (.calApply 1 [3]) s).cals.get 3).proposal = none := by
  decide +kernel

/-- The fields of a TIMING SET at their largest, and each out of range. -/
theorem test_witness_TimingSetReplacesSettings :
    ready.inReset = false ∧ ready.job.state = .setup ∧ (inCal .none none).channelState 0 = .calibrating ∧
    (∀ h : Head, ready.channelState h ≠ .calibrating) ∧
    (∀ n, ¬ timingBad 262144 2 10000000 100 200 10000 n) ∧
    timingBad 262145 2 10000000 100 200 10000 1 ∧ timingBad 4096 3 10000 1 1 10 2 ∧
    timingBad 4096 0 9999 1 1 10 4 ∧ timingBad 4096 0 10000 0 1 10 5 ∧ timingBad 4096 0 10000 2 1 10 6 ∧
    timingBad 4096 0 10000 1 1 9 7 := by
  refine ⟨by decide, by decide, by decide, by decide, ?_, ?_, ?_, ?_, ?_, ?_, ?_⟩
  · intro n
    unfold timingBad
    split <;> decide
  all_goals simp [timingBad]

theorem test_witness_CountsAndPulsesActByResolvedSource :
    let s := fun (r : Option ResolvedSource) (angle auto : Nat) (aligned : Bool) =>
      { ready with ctu := { ready.ctu with resolved := r, angle := angle, autoCount := auto, aligned := aligned } }
    ready.inReset = false ∧ State.reset.ctu.settings = none ∧ ready.ctu.settings = some timing ∧
    (s (some .line) 0 0 false).ctu.resolved = some .line ∧ (s (some .line) 0 0 true).ctu.aligned = true ∧
    ((s (some .count) 4094 0 true).ctu.angle + 1) % timing.counts ≠ 0 ∧
    ((s (some .count) 4095 0 true).ctu.angle + 1) % timing.counts = 0 ∧
    (s none 0 8190 false).ctu.autoCount + 1 ≠ 2 * timing.counts ∧
    (s none 0 8191 false).ctu.autoCount + 1 = 2 * timing.counts ∧
    (after (.forwardCount 9) (s none 0 8191 false)).ctu.resolved = some .count := by
  decide +kernel

theorem test_witness_ReverseStallAndFeedFaultAbortJob :
    cutting.inReset = false ∧ cutting.ctu.settings = some timing ∧ cutting.ctu.stallRunning = true ∧
    cutting.job.state = .running ∧ (after .stall cutting).job.abortCause = some .cylinderStall ∧
    (after .reverseCount cutting).job.abortCause = some .encoderReverse ∧
    (after (.feedFault true) cutting).job.abortCause = some .feedFault := by
  decide +kernel

theorem test_witness_BoundaryServesTimingAndSlip :
    (∀ h : Head, ready.channelState h ≠ .cutting) ∧ (∀ h : Head, ready.calibrating h = false) ∧
    ready.job.state ≠ .running ∧ ready.job.state ≠ .stopping ∧ State.reset.ctu.reference = none ∧
    ready.ctu.reference = some 0 ∧ timing.slipTolerance < (5 : Int).natAbs ∧
    (served timing 600000 (some 5) cutting).job.state = .running ∧
    (State.boundary timing 600000 (some 5) cutting).job.abortCause = some .encoderSlip ∧
    (served timing 600000 (some 5) ready).job.state = .setup ∧
    (State.boundary timing 600000 (some 4) cutting).job.state = .running := by
  decide +kernel

/-- A PRIMED head with a COMPLETE track within the budget is granted; without one it holds, below and at its limit. -/
theorem test_witness_DecisionGrantsOrHolds :
    let full := inJob .running .primed [track 0 false (.complete 500)]
    let bare := inJob .running .primed []
    (4 : Int).natAbs ≤ timing.slipTolerance ∧
    ((served timing 600000 (some 4) cutting).queues.get 0).records = [] ∧
    (State.boundary timing 600000 (some 4) cutting).channelState 0 = .waiting ∧
    full.granted = true ∧ full.anyActive = true ∧ full.job.state = .running ∧ bare.granted = false ∧
    bare.anyActive = true ∧ bare.job.record = some (record .parkHead) ∧ ready.job.state ≠ .running ∧
    ready.anyActive = false ∧ bare.hold.ctu.holdCount = 1 ∧ bare.hold.channelState 0 = .waiting ∧
    (State.hold { bare with ctu := { bare.ctu with holdCount := 2 } }).job.abortCause = some .starved := by
  decide +kernel

theorem test_witness_GoShedsThenStartsTracks :
    let full := inJob .running .primed [track 0 false (.complete 500)]
    full.granted = true ∧ full.anyActive = true ∧
    sumDemands (fun h => full.nextDemand h) (allHeads.filter (fun h => full.active h)) ≤
      full.budgetOf full.dbu.bank ∧
    full.go.channelState 0 = .cutting ∧ full.go.dbu.demand.get 0 = 750 ∧
    (State.go { full with dbu := Dbu.afterReset 0 }).channelState 0 = .parked := by
  decide +kernel

theorem test_witness_PartsOfWrongFormAreRefused :
    cutting.inReset = false ∧ 3 < (4 : Byte).toNat ∧ ([0, 1, 0, 7, 0, 1, 0, 0] : List Byte).length < 9 ∧
    (let p : List Byte := [0, 1, 0, 7, 0, 1, 0, 0, 2]
     9 ≤ p.length ∧ p.length < 13 ∧ (p.getD 8 0).getLsbD 1 = true) := by
  decide

/-- A well-formed opening part of track 1. -/
def part : Part := ⟨1, 7, 1, 0, 0, none, [1001]⟩

theorem part_formed (p : Part) (h : p.track < 3 ∧ p.tag = 7 ∧ p.total < 9 ∧ 1 ≤ p.total ∧ p.offset < 9 ∧
    p.flags = 0 ∧ p.signature = none ∧ p.samples = [1001]) : p.Formed := by
  obtain ⟨h1, h2, h3, h4, h5, h6, h7, h8⟩ := h
  refine ⟨by omega, by omega, by omega, by omega, by simp [h6, h7], ?_, by simp [h8], ?_⟩
  · intro a b hab
    rw [h7] at hab
    cases hab
  · simp [h8]

/-- Each check of a part: its own state and part. -/
theorem test_witness_PartIsRefusedByFirstFailingCheck :
    let empty := inJob .running .primed []
    let half : TrackRecord := ⟨1, 4, false, none, [5, 5], .filling⟩
    let filling := inJob .running .primed [half]
    let reason := fun (s : State) (p : Part) => s.partReason 0 p.bytes
    part.Formed ∧ empty.inReset = false ∧ (filling.queues.get 0).filling? = some half ∧
    (empty.queues.get 0).filling? = none ∧ reason ready part = some .notEngaged ∧
    reason empty { part with tag := 6 } = some .tag ∧ reason filling { part with track := 2 } = some .order ∧
    reason filling { part with total := 5 } = some .length ∧
    reason filling { part with total := 4, offset := 1 } = some .duplicate ∧
    reason filling { part with total := 4, offset := 3 } = some .gap ∧
    reason filling { part with total := 4, offset := 2, samples := [1, 2, 3] } = some .length ∧
    reason filling { part with total := 4, offset := 2, flags := 1 } = some .badField ∧
    reason empty { part with offset := 1 } = some .gap ∧
    reason { empty with queues := empty.queues.set 0 ⟨[], 1, 0, true, none⟩ } part = some .pastFinal ∧
    reason empty { part with track := 0 } = some .duplicate ∧ reason empty { part with track := 2 } = some .sequence ∧
    reason { empty with queues := empty.queues.set 0 ⟨[], 65535, 0, false, none⟩ } { part with track := 65535 } =
      some .badField ∧
    reason (inJob .running .primed (List.replicate 4 (track 0 false (.complete 5)))) part = some .queueFull ∧
    reason empty part = none := by
  refine ⟨part_formed _ (by decide), ?_⟩
  decide +kernel

/-- A part that continues and completes a record, and one that opens one. -/
theorem test_witness_PartsGrowRecordsAndDiscardFreesThem :
    let half : TrackRecord := ⟨1, 2, false, none, [5], .filling⟩
    let filling := inJob .running .primed ([track 0 false (.complete 500)] ++ [half])
    let next : Part := { part with total := 2, offset := 1 }
    next.Formed ∧ part.Formed ∧ filling.inReset = false ∧ filling.job.state = .running ∧ filling.active 0 = true ∧
    next.tag = filling.jobTag ∧ half.state = .filling ∧ (filling.queues.get 0).filling? = some half ∧
    next.track = half.number ∧ next.total = half.total ∧ next.offset = half.samples.length ∧
    next.offset + next.samples.length ≤ half.total ∧ next.final = false ∧ next.signature = none ∧
    ((after (.trackPart 0 next.bytes) filling).queues.get 0).records.getLast? =
      some ⟨1, 2, false, none, [5, 1000], .complete 502⟩ ∧
    ((after (.trackPart 0 next.bytes) filling).queues.get 0).expected = 2 ∧
    (3 : Byte).toNat = (3 : Head).val ∧ 3 < (4 : Byte).toNat ∧
    (after (.trackDiscard 1 [0]) filling).queues.get 0 =
      { filling.queues.get 0 with records := [track 0 false (.complete 500)] } := by
  refine ⟨part_formed _ (by decide), part_formed _ (by decide), ?_⟩
  decide +kernel

theorem test_witness_GradationInterpolatesExactlyAndInOrder :
    imageFault .gradation curve = none ∧ 2 + 1 < entryNat curve 0 ∧ toneOf curve 2 ≤ 999 ∧ 999 < toneOf curve 3 := by
  decide

theorem test_witness_CellWordFollowsStagesAndKeepsOrder :
    hcCutoff headcal ≤ hcMaxDepth headcal ∧ imageFault .headcal headcal = none ∧
    (gradationDepth curve 90 : Int) < hcCutoff headcal ∧ hcCutoff headcal ≤ (gradationDepth curve 91 : Int) ∧
    computeCell headcal curve none 4096 0 65535 1000 = ⟨3080, false, false, false, false⟩ := by
  decide

/-- A track and a test cut of 64 cells at the starts E/4 and E/4 + E/2 of E = 4096. -/
theorem test_witness_StrokesSpreadEvenlyOverRevolution :
    let from0 := fun (start : Nat) (s : State) =>
      { s with channels := s.channels.set 0 { s.channels.get 0 with cellIndex := 0, accumulator := start } }
    cutsCells 0 64 (from0 1024 cutting) ∧ cutsCells 0 64 (from0 3072 (inCal (.cut setup) none)) ∧ 0 < 64 ∧
    4 * 64 ≤ (from0 1024 cutting).counts ∧ 1024 = 4096 / 4 ∧ 3072 = 4096 / 4 + 4096 / 2 ∧
    ((from0 1024 cutting).channels.get 0).accumulator < (from0 1024 cutting).counts ∧
    (channelAfter 0 (List.replicate 48 7) (from0 1024 cutting)).cellIndex = 1 ∧
    (channelAfter 0 (List.replicate 15 7) (from0 3072 (inCal (.cut setup) none))).cellIndex = 0 := by
  refine ⟨Or.inl ⟨by decide, by decide +kernel, _, _, _, _, _, rfl, rfl⟩, Or.inr ⟨by decide, _, rfl, rfl⟩, ?_⟩
  decide +kernel

/-- Before, at and past the strokes of a track and of a test cut. -/
theorem test_witness_CountStrokesTrackOrPattern :
    let at0 := fun (k acc : Nat) (s : State) =>
      { s with channels := s.channels.set 0 { s.channels.get 0 with cellIndex := k, accumulator := acc } }
    let calibrates := inCal (.cut setup) none
    cutting.channelState 0 = .cutting ∧ cutting.jobCells = 64 ∧ cutting.counts = 4096 ∧
    (cutting.queues.get 0).records = [track 0 false (.cutting 500 0 0)] ∧
    cutting.jobCells ≤ ((at0 64 0 cutting).channels.get 0).cellIndex ∧
    ((at0 63 4031 cutting).channels.get 0).accumulator + 64 < 4096 ∧
    4096 ≤ ((at0 63 4032 cutting).channels.get 0).accumulator + 64 ∧
    (((at0 63 4032 cutting).countHead 0 0).channels.get 0).cellIndex = 64 ∧
    calibrates.channelState 0 = .calibrating ∧ (calibrates.cals.get 0).phase = .cut setup ∧
    (((at0 47 4032 calibrates).countHead 0 0).channels.get 0).portWord = 3000 ∧
    (((at0 48 4032 calibrates).countHead 0 0).channels.get 0).portWord = 0 ∧
    ready.channelState 0 ≠ .cutting ∧ ready.channelState 0 ≠ .calibrating := by
  decide +kernel

/-- A full history of unmatched strokes at the 64th missing one. -/
def losing (policy : FaultPolicy) : State :=
  { cutting with
    job := { cutting.job with record := some (record policy) }
    channels := cutting.channels.set 0 { cutting.channels.get 0 with accumulator := 4032 }
    monitors := cutting.monitors.set 0
      { Monitor.afterReset with history := List.replicate 16 ⟨0, 5, false, false⟩, missingRun := 63 } }

/-- The same in a test cut. -/
def losingCal : State :=
  { inCal (.cut setup) none with
    channels := ready.channels.set 0 { Channel.afterReset with state := .calibrating, accumulator := 4032 }
    monitors := (losing .parkHead).monitors }

theorem losing_strikes (policy : FaultPolicy) : strikes 0 (losing policy) :=
  ⟨64, Or.inl ⟨rfl, rfl, _, _, _, _, _, rfl, rfl⟩, by cases policy <;> decide, by cases policy <;> decide⟩

theorem test_witness_CountReachesEveryHead :
    (∀ h : Head, cutting.countLoses h = false) ∧ jobLive (losing .abortJob).job.state = true ∧
    (losing .abortJob).countAborts 0 = true ∧ strikes 0 (losing .abortJob) ∧
    16 ≤ ((losing .abortJob).monitors.get 0).history.length ∧
    64 ≤ ((losing .abortJob).monitors.get 0).missingRun + 1 ∧
    (losing .abortJob).countLoses 0 = true ∧ actionOf 0 (losing .abortJob) = .aborted ∧
    (∀ h : Head, (losing .parkHead).countLoses h = true → actionOf h (losing .parkHead) ≠ .aborted) ∧
    (State.countAll 0 (losing .parkHead)).channelState 0 = .parked ∧
    (State.countAll 0 (losing .parkHead)).job.result = some .partialEnd ∧
    (∀ h : Head, losingCal.countLoses h = true → actionOf h losingCal ≠ .aborted) ∧
    losingCal.countLoses 0 = true ∧ (State.countAll 0 losingCal).channelState 0 = .off := by
  refine ⟨by decide +kernel, by decide +kernel, by decide +kernel, losing_strikes _, ?_⟩
  decide +kernel

/-- A definition of heads 0 and 3, good, and with one field after another out of range. -/
def define : Define := ⟨7, 9, 16, ⟨0, 99, 99, 1⟩, ⟨24, 99, 99, 255⟩, ⟨0, 9, 9, 3⟩, ⟨0, 9, 9, 1⟩, 65535, 255, 16, 255⟩

theorem define_fits : define.Fits :=
  ⟨by decide, by decide, fun h => by revert h; decide⟩

theorem test_witness_JobDefineReplacesRecord :
    define.Fits ∧ ready.inReset = false ∧ ready.job.state = .setup ∧ (∀ n, ¬ define.bad n) ∧
    Define.bad { define with tag := 0 } 1 ∧ Define.bad { define with heads := 16 } 2 ∧
    Define.bad { define with screen := 37 } 3 ∧ Define.bad { define with gradation := ⟨0, 0, 0, 37⟩ } 16 ∧
    Define.bad { define with hold := 0 } 21 ∧ Define.bad { define with n := 17 } 22 ∧
    Define.bad { define with m := 0 } 23 := by
  refine ⟨define_fits, by decide, by decide, ?_, ?_, ?_, ?_, ?_, ?_, ?_, ?_⟩
  · rintro n (⟨_, h⟩ | ⟨_, h⟩ | ⟨_, h⟩ | ⟨h, hh, hn⟩ | ⟨_, h⟩ | ⟨_, h⟩ | ⟨_, h⟩)
    · exact absurd h (by decide)
    · exact absurd h (by decide)
    · exact absurd h (by decide)
    · revert hn
      refine (not_or.2 ⟨?_, not_or.2 ⟨?_, not_or.2 ⟨?_, ?_⟩⟩⟩) <;> rintro ⟨-, hb⟩ <;> revert hh hb <;>
        revert h <;> decide
    · exact absurd h (by decide)
    · exact absurd h (by decide)
    · exact absurd h (by decide)
  · exact Or.inl (by decide)
  · exact Or.inr (Or.inl (by decide))
  · exact Or.inr (Or.inr (Or.inl (by decide)))
  · exact Or.inr (Or.inr (Or.inr (Or.inl ⟨3, by decide, Or.inl (by decide)⟩)))
  · exact Or.inr (Or.inr (Or.inr (Or.inr (Or.inl (by decide)))))
  · exact Or.inr (Or.inr (Or.inr (Or.inr (Or.inr (Or.inl (by decide))))))
  · exact Or.inr (Or.inr (Or.inr (Or.inr (Or.inr (Or.inr (by decide))))))

theorem test_witness_ArmBindsTablesAndEngagesHeads :
    let r := record .parkHead
    ready.inReset = false ∧ ready.job.state = .setup ∧ ready.job.record = some r ∧ ready.lines.estopN = true ∧
    ready.ctu.settings.isSome = true ∧ ready.ctu.resolved.isSome = true ∧
    (∀ h : Head, ready.channelState h ≠ .calibrating) ∧
    (∀ x ∈ namedTables r, slotKind x.1 = x.2 ∧
      ((ready.store.slot x.1).state = .valid ∨ (ready.store.slot x.1).state = .bound)) ∧
    4 * ready.jobCells ≤ ready.counts ∧
    (∀ i ∈ namedFixed r, (ready.store.slot i).state = .valid ∨ (ready.store.slot i).state = .bound) ∧
    ready.store.owner = none ∧ vitalDemand r ready ≤ ready.budgetOf ready.dbu.bank := by
  decide +kernel

/-- Each step of R98, refused at its own state. -/
theorem test_witness_ArmIsRefusedByFirstFailingStep :
    let r := record .parkHead
    let reply := fun s => (after (.arm 1 []) s).fli.line
    let no := fun (status : Status) (data : List Byte) => some (replyFrame 0x31 1 status data)
    let without := fun i => { ready with store := ready.store.setSlot i Slot.blank }
    reply { ready with job := { ready.job with record := none } } = no .state [2] ∧
    reply { ready with lines := { ready.lines with estopN := false } } = no .emergency [3] ∧
    reply { ready with ctu := { ready.ctu with resolved := none } } = no .timing [4] ∧
    reply { ready with channels := ready.channels.set 2 { Channel.afterReset with state := .calibrating } } =
      no .headBusy [5, 2] ∧
    reply { ready with job := { ready.job with record := some { r with screen := 24 } } } = no .badParam [6, 24] ∧
    reply (without 0) = no .empty [6, 0] ∧
    reply { ready with store := ready.store.startCommit 24 } = no .busy [6, 24] ∧
    reply { ready with store := ready.store.setSlot 16 (Slot.holding .valid [1025, 0]) } = no .geometry [7] ∧
    reply (without 36) = no .empty [8, 36] ∧
    reply { ready with store := ready.store.startCommit 32 } = no .busy [8, 32] ∧
    reply { ready with store := { ready.store with owner := some 32 } } = no .staging [9, 32] ∧
    reply { ready with dbu := Dbu.afterReset 1 } = no .budget [10, 0] := by
  decide +kernel

theorem test_witness_DisarmAndReleaseFreeHeadsAndTables :
    let armed := inJob .armed .primed []
    let gone := inJob .ended .done []
    armed.inReset = false ∧ armed.job.state = .armed ∧ (gone.job.state = .ended ∨ gone.job.state = .aborted) ∧
    (after (.disarm 1 []) armed).channelState 0 = .off ∧ (after (.release 1 []) gone).channelState 0 = .off ∧
    ((after (.release 1 []) gone).store.slot 36).state = .valid := by
  decide +kernel

theorem test_witness_StartAndStopMoveJob :
    let armed := inJob .armed .primed []
    armed.inReset = false ∧ armed.job.state = .armed ∧ armed.lines.estopN = true ∧ armed.withinHard = true ∧
    State.withinHard { armed with ctu := { armed.ctu with period := 720600 } } = false ∧
    (after (.start 1 []) { armed with lines := { armed.lines with feedFault := true } }).job.state = .aborted ∧
    cutting.job.state = .running ∧ (after (.stop 1 []) cutting).job.state = .stopping := by
  decide +kernel

theorem test_witness_AbortAndEmergencyStopHaltJob :
    cutting.inReset = false ∧ cutting.job.state = .running ∧ ready.job.state = .setup ∧
    cutting.lines.estopN = true ∧ (after (.estop false) cutting).job.abortCause = some .emergency ∧
    (after (.estop true) { cutting with lines := { cutting.lines with estopN := false } }).job.state = .running := by
  decide +kernel

theorem test_witness_HeadParkRemovesHeadAndMayEndJob :
    cutting.inReset = false ∧ cutting.job.state = .running ∧ 3 < (4 : Byte).toNat ∧ (0 : Byte).toNat = (0 : Head).val ∧
    cutting.active 1 = false ∧ cutting.active 0 = true ∧
    (after (.headPark 1 [0]) cutting).job.result = some .partialEnd := by
  decide +kernel

/-- A track not FINAL in RUNNING and in STOPPING, and a FINAL one; the mismatch is counted. A WAITING head in STOPPING is
halted by the boundary, and the job of an only head ends. -/
theorem test_witness_RetirementReportsTrackAndMovesChannel :
    let stopping := { cutting with job := { cutting.job with state := .stopping } }
    let last := inJob .running .cutting [track 0 true (.cutting 500 5 7)]
    cutting.channelState 0 = .cutting ∧ (cutting.queues.get 0).records = [track 0 false (.cutting 500 0 0)] ∧
    cutting.job.state = .running ∧ stopping.job.state = .stopping ∧
    ((cutting.retireHead 0).rpt.heads.get 0).mismatches = 1 ∧ (stopping.retireHead 0).channelState 0 = .halted ∧
    (last.retireHead 0).channelState 0 = .done ∧ (last.retireHead 0).job.result = some .complete ∧
    ((last.retireHead 0).rpt.heads.get 0).mismatches = 0 ∧
    (let waits := inJob .stopping .waiting [track 0 false (.complete 500)]
     waits.job.state = .stopping ∧ waits.active 0 = true ∧ (waits.stopHead 0).channelState 0 = .halted ∧
      (waits.stopHead 0).job.result = some .stopped) ∧
    ready.channelState 0 ≠ .cutting ∧ (cutting.leaveJob 0 .parked .budgetShed).job.state = .ended := by
  decide +kernel

/-- The two histories of a sample: a stroke of word 2000 under a gain of 1000 expects 488. -/
theorem test_witness_SampleIsLateDuplicateOrClassified :
    let with1 := fun (matched : Bool) =>
      cutting.updMonitor 0 (fun m =>
        { m with history := [⟨0, 9, false, true⟩] ++ ⟨1, 2000, false, matched⟩ :: [] })
    let p := hcMonitor headcal
    cutting.inReset = false ∧ ((with1 false).monitors.get 0).params = some p ∧
    (∀ e ∈ ((with1 false).monitors.get 0).history, e.tag ≠ 2) ∧
    [9, 447, 448, 528, 529].map (classOf p ⟨1, 2000, false, false⟩) = [.lift, .undercut, .good, .good, .overcut] ∧
    [20, 21].map (classOf p ⟨1, 0, true, false⟩) = [.good, .drag] ∧
    faultOf p .lift ⟨[], 2, 0, 0, some p⟩ = some (.stylusLift, 3) ∧ faultOf p .lift ⟨[], 1, 0, 0, some p⟩ = none ∧
    faultOf p .overcut ⟨[], 0, 3, 0, some p⟩ = some (.stylusDeviation, 4) ∧
    ((after (.monitorSample 0 528 1) (with1 false)).monitors.get 0).history.all (·.matched) = true ∧
    ((after (.monitorSample 0 528 1) (with1 true)).rpt.heads.get 0).cells.duplicate = 1 ∧
    ((after (.monitorSample 0 528 2) (with1 true)).rpt.heads.get 0).cells.late = 1 := by
  decide +kernel

/-- A good CALIBRATE of head 0. -/
def calParams : CalParams := ⟨0, 16, 800, 3000, 24, 300, 2500, 10, 120⟩

theorem calParams_fits : calParams.Fits := ⟨by decide, by decide, by decide⟩

theorem test_witness_CalibrateChecksAndStarts :
    let reply := fun s p => (after (.calibrate 1 (CalParams.bytes p)) s).fli.line
    let no := fun (status : Status) (data : List Byte) => some (replyFrame 0x40 1 status data)
    calParams.Fits ∧ calParams.Good ∧ ready.inReset = false ∧ ready.job.state = .setup ∧
    calParams.head = (0 : Head).val ∧ reply ready calParams = no .started [0, 0, 64] ∧
    reply ready { calParams with head := 4 } = no .badParam [1] ∧
    reply ready { calParams with codeHi := 800 } = no .badParam [4] ∧
    reply ready { calParams with wMax := 299 } = no .badParam [7] ∧
    reply ready { calParams with timeout := 0 } = no .badParam [9] ∧
    reply (inCal (.waitIndex setup) none) calParams = no .headBusy [] ∧
    reply ready { calParams with screen := 24 } = no .badParam [] ∧
    reply ready { calParams with n := 33 } = no .badParam [5] ∧
    reply { ready with store := ready.store.setSlot 32 Slot.blank } calParams = no .empty [] := by
  refine ⟨calParams_fits, ⟨by decide, by decide, by decide, by decide, by decide, by decide, by decide, by decide⟩, ?_⟩
  decide +kernel

theorem test_witness_CalibrationMovesByBoundaryAndFails :
    let s := fun (phase : CalPhase) (k : Nat) => (inCal phase (some 120)).updChannel 0 (fun c => { c with cellIndex := k })
    ((s (.waitIndex setup) 0).calBoundary 0).cals.get 0 = ⟨.cut setup, none, none, some 120, none⟩ ∧
    (((s (.cut setup) 63).calBoundary 0).channelState 0 = .off) ∧
    (((s (.cut setup) 64).calBoundary 0).cals.get 0).phase = .awaitMeasure setup ∧
    (ready.cals.get 0).phase = .none ∧ (s (.awaitMeasure setup) 64).inReset = false ∧
    ((s (.awaitMeasure setup) 64).cals.get 0).timer = some 120 ∧
    (after (.measurementTimeout 0) (s (.awaitMeasure setup) 64)).channelState 0 = .off ∧
    (after (.calCancel 1 [0]) (s (.cut setup) 5)).channelState 0 = .off := by
  decide +kernel

/-- R148: the spans 2200 and 299 give a gain of 7534 and a base of -304; equal depths, a gain of 255 and a base above
4095 fail. -/
theorem test_witness_FitCarriesLowDepthToLowCode :
    setup.codeLo < setup.codeHi ∧ 150 < 449 ∧ fitGain setup 150 449 = 7534 ∧ fitBase setup 150 7534 = -304 ∧
    driveCode 7534 (-304) 150 = 800 ∧ driveCode 7534 (-304) 449 = 2999 ∧ 449 ≤ 449 ∧
    fitGain { setup with codeHi := 1049 } 0 1000 = 254 ∧ fitBase setup 900 16383 < -4096 := by
  decide

theorem test_witness_CalMeasureStoresLevelAndFits :
    let s := inCal (.awaitMeasure setup) (some 120)
    let one := after (.calMeasure 1 [0, 0, 0x02, 0x08, 0x02, 0x08]) s
    s.inReset = false ∧ (0 : Byte).toNat = (0 : Head).val ∧ 1 < (2 : Byte).toNat ∧
    (s.cals.get 0).phase = .awaitMeasure setup ∧ (∀ u, (ready.cals.get 0).phase ≠ .awaitMeasure u) ∧
    (one.cals.get 0).lowWidth = some 520 ∧
    ((after (.calMeasure 2 [0, 1, 0x06, 0x14, 0x06, 0x14]) one).cals.get 0).proposal = some ⟨7534, -304⟩ ∧
    (after (.calMeasure 1 [0, 0, 0x02, 0x08, 0x02, 0x13]) s).fli.line =
      some (replyFrame 0x41 1 .disagree [0, 11]) ∧
    (after (.calMeasure 1 [0, 0, 0x01, 0x2b, 0x09, 0xc5]) s).fli.line =
      some (replyFrame 0x41 1 .outOfWindow [3]) := by
  refine ⟨by decide, by decide, by decide, by decide, fun u h => CalPhase.noConfusion h, ?_⟩
  decide +kernel

theorem test_witness_SheddingOrderAndTrackDemand :
    1000 ≤ 1000 ∧ trackDemand headcal 1000 = worstDemand headcal ∧
    isShed (shedOrder (fun _ => 0) (fun _ => 5) (fun _ => true) 10) 2 = true ∧
    isShed (shedOrder (fun _ => 0) (fun _ => 5) (fun _ => true) 10) 1 = false := by
  decide

/-- Bank 0 sheds the cutting head, and bank 1 does not. -/
theorem test_witness_BankChangeShedsCuttingChannels :
    let s := { cutting with lines := { cutting.lines with ps := 7 } }
    s.inReset = false ∧ (0 : BitVec 3) ≠ s.lines.ps ∧ (after (.bankChange 0) s).channelState 0 = .parked ∧
    (7 : BitVec 3) = s.lines.ps ∧ (after (.bankChange 0) s).job.result = some .partialEnd ∧
    (1 : BitVec 3) ≠ s.lines.ps ∧ s.bankSheds 1 = [] ∧ (after (.bankChange 1) s).channelState 0 = .cutting := by
  decide +kernel

/-- A notice sent, discarded at 32 and masked. -/
theorem test_witness_PostedEventBecomesNoticeOrFlag :
    let full := { State.reset with fli := { State.reset.fli with notices := List.replicate 32 (noticeFrame (.slip 5)) } }
    let masked := { State.reset with rpt := { State.reset.rpt with mask := 0 } }
    letOn (.slip 5) State.reset ∧ State.reset.rpt.mask.getLsbD (eventKind (.slip 5) - 1) = true ∧
    State.reset.fli.notices.length < 32 ∧ 32 ≤ full.fli.notices.length ∧
    (full.post (.slip 5)).rpt.noticeLost = true ∧ (masked.post (.slip 5)).fli.notices = [] ∧
    eventKind (.slip 5) ≠ 0x03 ∧ eventKind (.slip 5) ≠ 0x0d := by
  refine ⟨trivial, ?_⟩
  decide +kernel

theorem test_witness_WearNoticeSettingsAndCounters :
    ready.inReset = false ∧ 3 < (4 : Byte).toNat ∧ (3 : Byte).toNat = (3 : Head).val ∧ cutting.channelState 0 ≠ .off ∧
    cutting.channelState 3 = .off ∧ 524288 < 4294967296 ∧ 524288 ≤ 524288 ∧ 524287 < 524288 ∧
    (17 : Byte).toNat > 16 ∧ (1 : Byte).toNat = 1 ∧ (16 : Byte).toNat = 16 ∧ (0 : Byte).toNat = 0 ∧
    ((after (.stylusWear 1 [3, 0xff, 0xff]) cutting).channels.get 3).wear = 65535 ∧
    (after (.noticeMask 1 [0, 7, 0xff, 0xff]) { ready with rpt := { ready.rpt with mask := 0 } }).rpt.mask = 0x7ffff := by
  decide +kernel

/-- A snapshot and an identity are answered from a cutting part. -/
theorem test_witness_IdentifyAndSnapshotReportPart :
    cutting.inReset = false ∧ (capture cutting).length = 134 ∧
    (after (.statusSnapshot 1 []) State.reset).rpt.fullReset = false := by
  decide +kernel

/-- A row outside each list of the frame statement, and the outcome it answers. -/
theorem test_witness_TablesSettingsAndLinesChangeOnlyByTheirRows :
    mayChangeTables (.stop 1 []) = false ∧ mayChangeSettings (.stop 1 []) = false ∧ movesLine (.stop 1 []) = false ∧
    (∃ t, exec (.stop 1 []) cutting = .next t) ∧ ∃ t, exec (.forwardCount 9) cutting = .next t :=
  ⟨rfl, rfl, rfl, ⟨_, command_taken .stop 1 [] stop cutting rfl rfl rfl⟩, ⟨_, serve_live _ cutting rfl⟩⟩

/-! ## Witnesses of the invariants: the cutting part, with an event waiting -/

/-- The cutting part before a STOP. -/
def waiting : State := { cutting with pending := [.stop 1 []] }

theorem waiting_steps : ∃ t, step waiting = .next t := ⟨_, command_taken .stop 1 [] stop cutting rfl rfl rfl⟩

theorem test_witness_EngageLineFollowsChannelState : waiting.EngageExact := by
  unfold State.EngageExact
  decide +kernel

theorem waiting_queues : waiting.QueuesShaped := by
  intro h
  refine forall_head (fun h => (waiting.queues.get h).Shaped) ⟨by decide, trivial, ?_, by decide, by decide⟩
    (.nil _ rfl) (.nil _ rfl) (.nil _ rfl) h
  intro r hr
  cases hr
  decide

theorem test_witness_TrackQueuesStayInOrder : waiting.QueuesShaped ∧ ∃ t, step waiting = .next t :=
  ⟨waiting_queues, waiting_steps⟩

theorem waiting_coherent : waiting.JobCoherent where
  heads h :=
    ⟨by revert h; decide +kernel, by revert h; decide +kernel, by revert h; decide +kernel, by revert h; decide +kernel,
      by revert h; decide +kernel, by revert h; decide +kernel, by revert h; decide +kernel, by revert h; decide +kernel⟩
  live := by decide
  feed := by decide
  held := by decide
  defined := by decide
  named r hr := by
    cases hr
    exact ⟨0, by decide⟩

theorem test_witness_JobAndChannelsStayCoherent : waiting.QueuesShaped ∧ waiting.JobCoherent :=
  ⟨waiting_queues, waiting_coherent⟩

theorem stocked_slot (st : SlotState) (i : Nat) :
    (stocked st).slot i =
      if 36 = i then Slot.holding st budgets else if 32 = i then Slot.holding st headcal
      else if 24 = i then Slot.holding st ring else if 16 = i then Slot.holding st screen
      else if 0 = i then Slot.holding st curve else Slot.blank := by
  simp only [stocked, List.foldl_cons, List.foldl_nil, Store.slot_setSlot, Store.slot_afterReset]
  simp

theorem stocked_wf (st : SlotState) (h : st = .valid ∨ st = .bound) : (stocked st).Wf where
  slots i _ := by
    rw [stocked_slot]
    repeat' split
    all_goals first | exact Slot.holding_wf st _ h | exact Slot.blank_wf
  committing i := by
    have hc : (stocked st).commit = none := rfl
    rw [stocked_slot, hc]
    rcases h with rfl | rfl <;> repeat' split
    all_goals exact iff_of_false SlotState.noConfusion nofun
  owned i hi := nomatch hi
  owner i hi := nomatch hi
  idle _ := rfl
  cursor c hc := nomatch hc

theorem test_witness_SlotsOfJobStayBound : waiting.store.Wf ∧ waiting.BindingExact := by
  refine ⟨stocked_wf .bound (Or.inr rfl), ⟨fun h => absurd h (by decide), fun _ r hr => ?_⟩⟩
  cases hr
  decide +kernel

theorem budgets_image : ImageOk .budget budgets := ⟨by decide +kernel, nofun⟩
theorem headcal_image : ImageOk .headcal headcal := ⟨by decide +kernel, nofun⟩
theorem ring_image : ImageOk .runout ring := by
  refine ⟨rfl, fun _ => ⟨List.length_replicate, fun e he => ?_⟩⟩
  rw [List.eq_of_mem_replicate he]
  decide
theorem screen_image : ImageOk .screen screen := ⟨by decide +kernel, nofun⟩
theorem curve_image : ImageOk .gradation curve := ⟨by decide +kernel, nofun⟩

theorem stocked_images (i : Nat) (h : (stocked .bound).slot i ≠ Slot.blank) :
    ImageOk (slotKind i) ((stocked .bound).slot i).entries := by
  have hs := stocked_slot .bound i
  by_cases h1 : 36 = i
  · rw [if_pos h1] at hs
    rw [hs, ← h1]
    exact budgets_image
  by_cases h2 : 32 = i
  · rw [if_neg h1, if_pos h2] at hs
    rw [hs, ← h2]
    exact headcal_image
  by_cases h3 : 24 = i
  · rw [if_neg h1, if_neg h2, if_pos h3] at hs
    rw [hs, ← h3]
    exact ring_image
  by_cases h4 : 16 = i
  · rw [if_neg h1, if_neg h2, if_neg h3, if_pos h4] at hs
    rw [hs, ← h4]
    exact screen_image
  by_cases h5 : 0 = i
  · rw [if_neg h1, if_neg h2, if_neg h3, if_neg h4, if_pos h5] at hs
    rw [hs, ← h5]
    exact curve_image
  rw [if_neg h1, if_neg h2, if_neg h3, if_neg h4, if_neg h5] at hs
  exact absurd hs h

theorem test_witness_TableStoreStaysCheckedAndCoherent : waiting.store.Wf ∧ waiting.TablesChecked := by
  refine ⟨stocked_wf .bound (Or.inr rfl), ⟨fun i hi => stocked_images i ?_, fun i hi => (nomatch hi),
    fun i hi => (nomatch hi), fun h p hp => ?_⟩⟩
  · intro hb
    have hs : waiting.store.slot i = Slot.blank := hb
    rw [hs] at hi
    rcases hi with hi | hi <;> exact SlotState.noConfusion hi
  · have hn : ∀ g : Head, (waiting.cals.get g).proposal = none := by decide
    rw [hn] at hp
    cases hp

theorem test_witness_DemandStaysWithinBudget : waiting.HeldClear ∧ waiting.WithinBudget := by
  refine ⟨fun h => absurd h (by decide), ?_⟩
  unfold State.WithinBudget
  decide +kernel

/-- Two strokes in the history of head 0. -/
theorem test_witness_HistoriesHoldLatestDistinctStrokes :
    historyOrdered 1 [⟨255, 5, false, true⟩, ⟨0, 6, false, false⟩] ∧ waiting.HistoriesOrdered := by
  refine ⟨⟨by decide, fun i hi => ?_⟩, fun h => ⟨?_, ?_⟩⟩
  · match i, hi with
    | 0, _ => rfl
    | 1, _ => rfl
  · revert h
    decide
  · have : (waiting.monitors.get h).history = [] := by
      revert h
      decide
    intro i hi
    rw [this] at hi
    exact absurd hi (Nat.not_lt_zero _)

end Sys2Proof.Tests
end

section
/-! SUPPORT. Bytes and entries read from a payload, and the answer of a command and of a table frame. -/

namespace Sys2Proof.Machine

open Sys2Proof.Claims

/-! ## Fields -/

@[simp] theorem beNat_one (a : Byte) : beNat [a] = a.toNat := by simp [beNat]

@[simp] theorem beNat_two (a b : Byte) : beNat [a, b] = a.toNat * 256 + b.toNat := by simp [beNat]

/-- The two bytes of a number read from two bytes are those bytes. -/
theorem be16_of_bytes (hi lo : Byte) : be16 (hi.toNat * 256 + lo.toNat) = [hi, lo] := by
  unfold be16
  congr 1
  · exact BitVec.eq_of_toNat_eq (by rw [BitVec.toNat_ofNat]; omega)
  · congr 1
    exact BitVec.eq_of_toNat_eq (by rw [BitVec.toNat_ofNat]; omega)

/-- A two-byte number read back from its bytes. -/
theorem beNat_be16 (n : Nat) (h : n < 65536) : beNat (be16 n) = n := by
  unfold be16
  rw [beNat_two, BitVec.toNat_ofNat, BitVec.toNat_ofNat]
  omega

theorem be32_length (n : Nat) : (be32 n).length = 4 := rfl

/-- The four bytes of an entry, put together, are the entry. -/
theorem entriesOf_be32 (e : Entry) (rest : List Byte) : entriesOf (be32 e.toNat ++ rest) = e :: entriesOf rest := by
  have he := e.isLt
  have hbytes : (BitVec.ofNat 8 (e.toNat / 16777216) ++ BitVec.ofNat 8 (e.toNat / 65536) ++
      BitVec.ofNat 8 (e.toNat / 256) ++ BitVec.ofNat 8 e.toNat : BitVec 32) = e := by
    apply BitVec.eq_of_toNat_eq
    simp only [BitVec.toNat_append, BitVec.toNat_ofNat]
    rw [← Nat.shiftLeft_add_eq_or_of_lt (by omega), ← Nat.shiftLeft_add_eq_or_of_lt (by omega),
      ← Nat.shiftLeft_add_eq_or_of_lt (by omega)]
    simp only [Nat.shiftLeft_eq]
    omega
  show _ :: entriesOf rest = _
  exact congrArg (· :: entriesOf rest) hbytes

/-- The entries of a frame are read back from its bytes. -/
theorem entriesOf_flatMap_be32 (entries : List Entry) :
    entriesOf (entries.flatMap (fun e => be32 e.toNat)) = entries := by
  induction entries with
  | nil => rfl
  | cons e rest ih => rw [List.flatMap_cons, entriesOf_be32, ih]

theorem flatMap_be32_length (entries : List Entry) :
    (entries.flatMap (fun e => be32 e.toNat)).length = 4 * entries.length := by
  induction entries with
  | nil => rfl
  | cons e rest ih => rw [List.flatMap_cons, List.length_append, ih, be32_length, List.length_cons]; omega

/-! ## Answers -/

/-- What an owning block gives for a command, sent as its answer. -/
def answerOf (code : Byte) (tag : Half) (a : Answer) : State := answer code tag a.2.1 a.2.2 a.1

@[simp] theorem answerOf_mk (code : Byte) (tag : Half) (s : State) (status : Status) (data : List Byte) :
    answerOf code tag (s, status, data) = answer code tag status data s := rfl

/-- A command that is taken in every job state and has its length is answered as its own block answers it. -/
theorem command_answers (c : CommandName) (tag : Half) (p : List Byte) (body : State → Answer) (s : State)
    (hr : s.inReset = false) (hl : p.length = commandLength c) (ha : ∀ j, commandAvailable c j = true) :
    command c tag p body s = .next (answerOf (commandCode c) tag (body s)) :=
  command_taken c tag p body s hr hl (ha _)

end Sys2Proof.Machine
end

section
/-! The checksum of R6 (O17). -/

namespace Sys2Proof.Machine

theorem highHalf_eq (e : Entry) : highHalf e = e.toNat / 65536 := by
  have := e.isLt
  simp only [highHalf, BitVec.extractLsb'_toNat, Nat.shiftRight_eq_div_pow]
  omega

theorem lowHalf_eq (e : Entry) : lowHalf e = e.toNat % 65536 := by
  simp [lowHalf]

theorem checksum_nil : checksum [] = (0, 0) := rfl

/-- The next entry enters with its high half and then its low half. -/
theorem checksum_concat (entries : List Entry) (e : Entry) :
    checksum (entries ++ [e]) = sumStep (sumStep (checksum entries) (highHalf e)) (lowHalf e) := by
  simp [checksum]

theorem sumStep_lt (sums : Nat × Nat) (n : Nat) : (sumStep sums n).1 < 65535 ∧ (sumStep sums n).2 < 65535 :=
  ⟨Nat.mod_lt _ (by decide), Nat.mod_lt _ (by decide)⟩

theorem checksum_lt (entries : List Entry) : (checksum entries).1 < 65535 ∧ (checksum entries).2 < 65535 := by
  induction entries using List.reverseRecOn with
  | nil => decide
  | append_singleton rest e _ => rw [checksum_concat]; exact sumStep_lt _ _

/-- sum1 is the sum of all halves modulo 65535. -/
theorem checksum_fst (entries : List Entry) :
    (checksum entries).1 = (entries.map (fun e => e.toNat / 65536 + e.toNat % 65536)).sum % 65535 := by
  induction entries using List.reverseRecOn with
  | nil => rfl
  | append_singleton rest e ih =>
    rw [checksum_concat, List.map_append, List.sum_append]
    simp only [sumStep, ih, highHalf_eq, lowHalf_eq, List.map_cons, List.map_nil, List.sum_cons, List.sum_nil]
    omega

/-- Settles O17, by the sums of the entries before and of the next entry. -/
theorem checksumIsPairOfRunningSums : Obligations.ChecksumIsPairOfRunningSums := by
  refine ⟨fun entries e => ⟨checksum_nil, ?_⟩, fun entries => ⟨(checksum_lt entries).1, (checksum_lt entries).2,
    checksum_fst entries⟩⟩
  rw [checksum_concat, highHalf_eq, lowHalf_eq]
  rfl

end Sys2Proof.Machine
end

section
/-! The commands of the Table Store (O19, O20, O21). -/

namespace Sys2Proof.Machine

open Sys2Proof.Claims

/-! ## TABLE COMMIT, its completion, TABLE ERASE, TABLE DISCARD -/

theorem exec_tableCommit (tag : Half) (slot : Byte) (s : State) (hr : s.inReset = false) :
    exec (.tableCommit tag [slot]) s = .next (answerOf 0x21 tag (tableCommit [slot] s)) :=
  command_answers .tableCommit tag [slot] _ s hr rfl (fun _ => rfl)

theorem exec_tableErase (tag : Half) (slot : Byte) (s : State) (hr : s.inReset = false) :
    exec (.tableErase tag [slot]) s = .next (answerOf 0x22 tag (tableErase [slot] s)) :=
  command_answers .tableErase tag [slot] _ s hr rfl (fun _ => rfl)

theorem exec_tableDiscard (tag : Half) (s : State) (hr : s.inReset = false) :
    exec (.tableDiscard tag []) s = .next (answerOf 0x20 tag (tableDiscard s)) :=
  command_answers .tableDiscard tag [] _ s hr rfl (fun _ => rfl)

theorem exec_tableReadStart (tag : Half) (slot hi lo : Byte) (s : State) (hr : s.inReset = false) :
    exec (.tableReadStart tag [slot, hi, lo]) s = .next (answerOf 0x23 tag (tableReadStart [slot, hi, lo] s)) :=
  command_answers .tableReadStart tag [slot, hi, lo] _ s hr rfl (fun _ => rfl)

theorem exec_tableReadContinue (tag : Half) (s : State) (hr : s.inReset = false) :
    exec (.tableReadContinue tag []) s = .next (answerOf 0x24 tag (tableReadContinue s)) :=
  command_answers .tableReadContinue tag [] _ s hr rfl (fun _ => rfl)

theorem exec_calApply (tag : Half) (head : Byte) (s : State) (hr : s.inReset = false) :
    exec (.calApply tag [head]) s = .next (answerOf 0x42 tag (calApply [head] s)) :=
  command_answers .calApply tag [head] _ s hr rfl (fun _ => rfl)

theorem commitStartsCopyOfValidImage : CommitStartsCopyOfValidImage := by
  intro tag slot s hr
  rw [exec_tableCommit tag slot s hr]
  refine congrArg _ ?_
  have hslot : field [slot] 0 1 = slot.toNat := by simp [field]
  simp only [tableCommit, hslot, Option.isSome_iff_ne_none]
  split
  · rfl
  split
  · rfl
  split
  · rfl
  split
  · rfl
  cases imageFault (slotKind slot.toNat) s.store.image with
  | some i => rfl
  | none => rfl

theorem commitCompletionFillsSlot : CommitCompletionFillsSlot := by
  intro slot s hr hc
  have hdone : s.commitDone = State.post
      (.commitDone slot (checksum s.store.image).1 (checksum s.store.image).2)
      { s with store := s.store.completeCommit slot } := by
    simp only [State.commitDone, hc]
  exact (serve_live State.commitDone s hr).trans (by rw [hdone]; rfl)

theorem eraseAndDiscardFreeTables : EraseAndDiscardFreeTables := by
  intro tag slot s hr
  have hslot : field [slot] 0 1 = slot.toNat := by simp [field]
  rw [exec_tableErase tag slot s hr, exec_tableDiscard tag s hr]
  refine ⟨fun h => ?_, fun h => ?_, ?_⟩ <;> refine congrArg _ ?_
  · simp only [tableErase, hslot, if_pos h, answerOf_mk]
  · simp only [tableErase, hslot, if_neg (Nat.not_lt.mpr h)]
    cases (s.store.slot slot.toNat).state <;> rfl
  · simp only [tableDiscard, Option.isSome_iff_ne_none]
    split <;> rfl

/-- Settles O19, one part for each of the four. -/
theorem commitEraseAndDiscardMoveSlots : Obligations.CommitEraseAndDiscardMoveSlots :=
  ⟨commitStartsCopyOfValidImage, commitCompletionFillsSlot, eraseAndDiscardFreeTables⟩

/-! ## Read-back -/

/-- The END mark is set exactly when at most 64 entries are left (R19, R20). -/
theorem readEnd_eq (v : Slot) (offset : Nat) : readEnd v offset = decide (v.entries.length ≤ offset + 64) := by
  simp only [readEnd, readEntries, Config.readBlock, List.length_take, List.length_drop]
  exact decide_eq_decide.mpr (by omega)

theorem readTail_eq (v : Slot) (offset : Nat) : readTail v offset = givenBytes v offset := by
  simp only [readTail, givenBytes, readEnd_eq, flagByte, decide_eq_true_eq]
  split <;> rfl

/-- Settles O20, by the state of the slot named. -/
theorem readBackGivesSlotInBlocks : Obligations.ReadBackGivesSlotInBlocks := by
  intro tag slot hi lo s hr hs
  have hslot : field [slot, hi, lo] 0 1 = slot.toNat := by simp [field]
  have hoff : field [slot, hi, lo] 1 2 = hi.toNat * 256 + lo.toNat := by simp [field]
  rw [exec_tableReadStart tag slot hi lo s hr, exec_tableReadContinue tag s hr]
  refine ⟨congrArg _ ?_, fun hc => congrArg _ ?_, fun c hc => congrArg _ ?_⟩
  · simp only [tableReadStart, hslot, hoff, if_neg (Nat.not_lt.mpr hs), readTail_eq, be16_of_bytes]
    cases hv : (s.store.slot slot.toNat).state with
    | empty => rfl
    | committing => rfl
    | valid =>
      simp only [reduceCtorEq, if_false, if_true]
      split <;> rfl
    | bound =>
      simp only [reduceCtorEq, if_false]
      split <;> rfl
  · simp only [tableReadContinue, hc, answerOf_mk]
  · simp only [tableReadContinue, hc, answerOf_mk, readTail_eq]
    rfl

/-! ## CAL APPLY -/

theorem headOf_val (h : Head) : headOf h.val = some h := by
  simp [headOf]

theorem headOf_above (n : Nat) (h : 3 < n) : headOf n = none := by
  rw [headOf, dif_neg (by omega)]

/-- What CAL APPLY leaves in the slot of a head (R22). -/
theorem Store.slot_apply (h : Head) (v : Proposal) (t : Store) :
    (t.apply (headcalSlot h) v).slot (headcalSlot h) =
      Slot.holding .valid (appliedEntries v (t.slot (headcalSlot h)).entries) := by
  have hlt : headcalSlot h < 37 := by unfold headcalSlot; omega
  simp [Store.apply, hlt]

/-- Settles O21, by the proposal of the head and the state of its slot. -/
theorem calApplyWritesProposal : Obligations.CalApplyWritesProposal := by
  intro tag head s hr
  have hhead : field [head] 0 1 = head.toNat := by simp [field]
  rw [exec_calApply tag head s hr]
  refine ⟨fun h => congrArg _ ?_, fun h hh => congrArg _ ?_⟩
  · simp only [calApply, hhead, headOf_above _ h, answerOf_mk]
  · simp only [calApply, hhead, hh, headOf_val]
    cases (s.cals.get h).proposal with
    | none => rfl
    | some v =>
      have hslot := Store.slot_apply h v s.store
      unfold headcalSlot at hslot
      simp only [headcalSlot, hslot]
      cases (s.store.slot (32 + h.val)).state <;> rfl

end Sys2Proof.Machine
end

section
/-! Table-data frames (O15, O16). -/

namespace Sys2Proof.Machine

open Sys2Proof.Claims

/-! ## The course of a table-data frame -/

/-- What the store gives for a table-data frame, sent as its reply (R11). -/
def tableAnswerOf (slot offset : Nat) (a : StoreAnswer) (s : State) : State :=
  tableAnswer a.2.1 slot offset a.2.2 { s with store := a.1 }

/-- A payload of the wrong form never reaches the store (R179). -/
theorem tableFrame_malformed (p : List Byte) (store : Nat → Nat → List Entry → Store → StoreAnswer) (s : State)
    (hr : s.inReset = false) (hp : dataWellFormed p = false) :
    serve (State.tableFrame p store) s = .next (tableAnswer .length (dataSlot p) (dataOffset p) 0 s) := by
  rw [serve_live _ s hr]
  simp only [State.tableFrame, hp]
  rfl

/-- A payload of the right form is answered as the store answers it. -/
theorem tableFrame_wellFormed (p : List Byte) (store : Nat → Nat → List Entry → Store → StoreAnswer) (s : State)
    (hr : s.inReset = false) (hp : dataWellFormed p = true) :
    serve (State.tableFrame p store) s =
      .next (tableAnswerOf (dataSlot p) (dataOffset p)
        (store (dataSlot p) (dataOffset p) (dataEntries p) s.store) s) := by
  rw [serve_live _ s hr]
  simp only [State.tableFrame, hp]
  rfl

/-! ## Slot numbers and malformed frames -/

/-- The kind and size of every slot by R1's table. -/
theorem slotKind_size (slot : Nat) (h : slot ≤ 36) :
    (slotKind slot, kindSize (slotKind slot)) =
      if slot ≤ 15 then (.gradation, 33) else if slot ≤ 23 then (.screen, 2)
      else if slot ≤ 31 then (.runout, 256) else if slot ≤ 35 then (.headcal, 16) else (.budget, 8) := by
  revert h slot
  decide

theorem slotNumberFixesKindAndSize : SlotNumberFixesKindAndSize := by
  refine ⟨slotKind_size, fun tag slot hi lo s hr hs => ⟨?_, ?_, ?_⟩⟩
  · rw [exec_tableCommit tag slot s hr]
    simp [tableCommit, field, hs]
  · rw [exec_tableErase tag slot s hr]
    simp [tableErase, field, hs]
  · rw [exec_tableReadStart tag slot hi lo s hr]
    simp [tableReadStart, field, hs]

theorem malformedTableFrameIsAnsweredLength : MalformedTableFrameIsAnsweredLength := by
  intro p s hr
  refine ⟨fun hp => ?_, fun slot flags hi lo rest he hrest => ?_⟩
  · have hslot : dataSlot p = 0 := if_pos hp
    have hoff : dataOffset p = 0 := if_pos hp
    have hform : dataWellFormed p = false := by simp [dataWellFormed, Nat.not_le.mpr hp]
    have h := fun store => tableFrame_malformed p store s hr hform
    rw [hslot, hoff] at h
    exact ⟨h _, h _⟩
  · subst he
    have hslot : dataSlot (slot :: flags :: hi :: lo :: rest) = slot.toNat := by simp [dataSlot, field]
    have hoff : dataOffset (slot :: flags :: hi :: lo :: rest) = hi.toNat * 256 + lo.toNat := by
      simp [dataOffset, field]
    have hform : dataWellFormed (slot :: flags :: hi :: lo :: rest) = false := by
      simp only [dataWellFormed, List.length_cons, within, Bool.and_eq_false_iff, beq_eq_false_iff_ne,
        decide_eq_false_iff_not]
      omega
    have h := fun store => tableFrame_malformed _ store s hr hform
    rw [hslot, hoff] at h
    exact ⟨h _, h _⟩

/-- Settles O15: neither a slot above 36 nor a malformed payload reaches the store. -/
theorem tableRequestsAreCheckedForForm : Obligations.TableRequestsAreCheckedForForm :=
  ⟨slotNumberFixesKindAndSize, malformedTableFrameIsAnsweredLength⟩

/-! ## The fields of a well-formed payload -/

section Payload

variable (slot offset : Nat) (flags : Byte) (entries : List Entry)

theorem tablePayload_length : (tablePayload slot flags offset entries).length = 4 + 4 * entries.length := by
  simp only [tablePayload, List.length_append, flatMap_be32_length]
  rfl

theorem dataWellFormed_tablePayload (h1 : 1 ≤ entries.length) (h2 : entries.length ≤ 256) :
    dataWellFormed (tablePayload slot flags offset entries) = true := by
  simp only [dataWellFormed, tablePayload_length, within, Bool.and_eq_true, decide_eq_true_eq, beq_iff_eq]
  omega

theorem dataSlot_tablePayload (hs : slot < 256) : dataSlot (tablePayload slot flags offset entries) = slot := by
  rw [dataSlot, if_neg (by rw [tablePayload_length]; omega)]
  simp [tablePayload, field, be8, Nat.mod_eq_of_lt hs]

theorem dataOffset_tablePayload (ho : offset < 65536) :
    dataOffset (tablePayload slot flags offset entries) = offset := by
  rw [dataOffset, if_neg (by rw [tablePayload_length]; omega)]
  exact beNat_be16 offset ho

theorem dataEntries_tablePayload : dataEntries (tablePayload slot flags offset entries) = entries :=
  entriesOf_flatMap_be32 entries

end Payload

/-- A well-formed frame is answered as the store answers its slot, offset and entries. -/
theorem tableFrame_payload (slot offset : Nat) (flags : Byte) (entries : List Entry)
    (store : Nat → Nat → List Entry → Store → StoreAnswer) (s : State) (hr : s.inReset = false)
    (hs : slot < 256) (ho : offset < 65536) (h1 : 1 ≤ entries.length) (h2 : entries.length ≤ 256) :
    serve (State.tableFrame (tablePayload slot flags offset entries) store) s =
      .next (tableAnswerOf slot offset (store slot offset entries s.store) s) := by
  rw [tableFrame_wellFormed _ store s hr (dataWellFormed_tablePayload slot offset flags entries h1 h2),
    dataSlot_tablePayload slot offset flags entries hs, dataOffset_tablePayload slot offset flags entries ho,
    dataEntries_tablePayload]

/-! ## The runout ring (R10) -/

theorem clampRunout_eq (e : Entry) : clampRunout e = clamped e := by
  unfold clampRunout clamped
  split
  · rw [min_eq_right (by omega), max_eq_left (by omega)]
  · split
    · rw [min_eq_left (by omega)]
      rfl
    · rw [min_eq_right (by omega), max_eq_right (by omega), BitVec.ofInt_toInt]

theorem ringWrite_length (image : List Entry) (offset : Nat) (entries : List Entry) :
    (ringWrite image offset entries).length = image.length := by
  induction entries generalizing image offset with
  | nil => rfl
  | cons e rest ih => rw [ringWrite, ih, List.length_set]

/-- Entry i of a frame stands at (offset + i) modulo 256 of the ring, and every other entry is as it was. -/
theorem ringWrite_getElem (entries image : List Entry) (offset j : Nat) (hi : image.length = 256)
    (hn : entries.length ≤ 256) (hj : j < 256) :
    (ringWrite image offset entries)[j]? =
      some ((entries[(j + 256 - offset % 256) % 256]?.map clamped).getD (image.getD j 0)) := by
  induction entries generalizing image offset with
  | nil => simp [ringWrite, hi, hj]
  | cons e rest ih =>
    rw [List.length_cons] at hn
    rw [ringWrite, ih _ (offset + 1) (by rw [List.length_set, hi]) (by omega), clampRunout_eq]
    by_cases h0 : j = offset % 256
    · have hnext : (j + 256 - (offset + 1) % 256) % 256 = 255 := by omega
      have hfirst : (j + 256 - offset % 256) % 256 = 0 := by omega
      rw [hnext, hfirst, List.getElem?_eq_none (by omega)]
      simp [← h0, hi, hj]
    · have hstep : (j + 256 - offset % 256) % 256 = (j + 256 - (offset + 1) % 256) % 256 + 1 := by omega
      rw [hstep, List.getElem?_cons_succ]
      simp [Ne.symm h0]

theorem ringWrite_eq (image entries : List Entry) (offset : Nat) (hi : image.length = 256)
    (hn : entries.length ≤ 256) : ringWrite image offset entries = ringAfter image offset entries := by
  apply List.ext_getElem?
  intro j
  by_cases hj : j < 256
  · rw [ringWrite_getElem entries image offset j hi hn hj]
    rw [ringAfter, List.getElem?_ofFn, dif_pos hj]
    dsimp only
    cases entries[(j + 256 - offset % 256) % 256]? <;> rfl
  · rw [List.getElem?_eq_none (by rw [ringWrite_length]; omega),
      List.getElem?_eq_none (by rw [ringAfter, List.length_ofFn]; omega)]

theorem countP_runoutClamped (entries : List Entry) : entries.countP runoutClamped = clampedCount entries := by
  refine List.countP_congr (fun e _ => ?_)
  simp [runoutClamped]

/-! ## The write of a frame (R8 to R10) -/

theorem slotKind_eq_runout (slot : Nat) : slotKind slot = .runout ↔ 24 ≤ slot ∧ slot ≤ 31 := by
  unfold slotKind
  split_ifs <;> simp <;> omega

/-- An image that is no ring is continued without a gap and within its kind's size (R9). -/
theorem writeImage_append (kind : SlotKind) (hk : kind ≠ .runout) (image entries : List Entry) (offset : Nat) :
    writeImage kind image offset entries =
      if offset ≠ image.length then .refused .gap
      else if kindSize kind < offset + entries.length then .refused .length
      else .written (image ++ entries) 0 := by
  cases kind with
  | runout => exact absurd rfl hk
  | gradation | screen | headcal | budget => rfl

/-- The store after a write that passed the checks on slot, offset and owner. -/
def Store.staged (slot : Nat) (w : WriteResult) (t : Store) : StoreAnswer :=
  match w with
  | .written image clamped => ({ t with owner := some slot, image := image }, writtenStatus clamped, clamped)
  | .refused status => (t, status, 0)

/-- An OPEN frame: the checks of R8 in order, then the write into the image of its kind. -/
theorem Store.openData_eq (slot offset : Nat) (entries : List Entry) (t : Store) :
    t.openData slot offset entries =
      if 36 < slot then (t, .badParam, 0)
      else if 255 < offset then (t, .badParam, 0)
      else if t.commit ≠ none then (t, .storeBusy, 0)
      else if t.owner ≠ none ∧ t.owner ≠ some slot then (t, .stagingBusy, 0)
      else if (t.slot slot).state = .bound then (t, .bound, 0)
      else t.staged slot
        (writeImage (slotKind slot) (openedImage (slotKind slot) (t.slot slot)) offset entries) := by
  simp only [Store.openData, Option.isSome_iff_ne_none, Bool.and_eq_true, bne_iff_ne]
  rfl

/-- A frame without OPEN: the checks of R9 in order, then the write into the staged image. -/
theorem Store.appendData_eq (slot offset : Nat) (entries : List Entry) (t : Store) :
    t.appendData slot offset entries =
      if 36 < slot then (t, .badParam, 0)
      else if 255 < offset then (t, .badParam, 0)
      else if t.owner ≠ some slot then (t, .noStaging, 0)
      else if t.commit = some slot then (t, .busy, 0)
      else t.staged slot (writeImage (slotKind slot) t.image offset entries) := by
  unfold Store.appendData
  by_cases ho : t.owner = some slot
  · cases writeImage (slotKind slot) t.image offset entries <;> simp [Store.staged, ho]
  · simp [ho]

/-- An OPEN frame leaves the store, or writes while no commit is in flight. -/
theorem Store.openData_cases (slot offset : Nat) (entries : List Entry) (t : Store) :
    (t.openData slot offset entries).1 = t ∨
      (slot < 37 ∧ t.commit = none ∧
        t.openData slot offset entries =
          t.staged slot
            (writeImage (slotKind slot) (openedImage (slotKind slot) (t.slot slot)) offset entries)) := by
  rw [Store.openData_eq]
  split
  · exact Or.inl rfl
  split
  · exact Or.inl rfl
  split
  · exact Or.inl rfl
  split
  · exact Or.inl rfl
  split
  · exact Or.inl rfl
  · rename_i hs _ hc _ _
    exact Or.inr ⟨by omega, not_not.mp hc, rfl⟩

/-- A frame without OPEN leaves the store, or writes to the image of its owner, whose commit is not in flight. -/
theorem Store.appendData_cases (slot offset : Nat) (entries : List Entry) (t : Store) :
    (t.appendData slot offset entries).1 = t ∨
      (slot < 37 ∧ t.owner = some slot ∧ t.commit ≠ some slot ∧
        t.appendData slot offset entries =
          t.staged slot (writeImage (slotKind slot) t.image offset entries)) := by
  rw [Store.appendData_eq]
  split
  · exact Or.inl rfl
  split
  · exact Or.inl rfl
  split
  · exact Or.inl rfl
  split
  · exact Or.inl rfl
  · rename_i hs _ ho hc
    exact Or.inr ⟨by omega, not_not.mp ho, hc, rfl⟩

/-- What a write leaves and is answered. -/
theorem staged_eq_written (slot offset : Nat) (entries image : List Entry) (s : State)
    (hn : entries.length ≤ 256) (hi : 24 ≤ slot → slot ≤ 31 → image.length = 256) :
    tableAnswerOf slot offset (s.store.staged slot (writeImage (slotKind slot) image offset entries)) s =
      written slot offset entries image s := by
  unfold written
  by_cases hk : 24 ≤ slot ∧ slot ≤ 31
  · rw [if_pos hk, (slotKind_eq_runout slot).mpr hk]
    simp only [writeImage, Store.staged, ringWrite_eq image entries offset (hi hk.1 hk.2) hn,
      countP_runoutClamped]
    rfl
  · rw [if_neg hk, writeImage_append _ (fun h => hk ((slotKind_eq_runout slot).mp h))]
    split
    · rfl
    split
    · rfl
    · rfl

theorem openedImage_eq (slot : Nat) (v : Slot) :
    openedImage (slotKind slot) v =
      if 24 ≤ slot ∧ slot ≤ 31 then (if v.state = .valid then v.entries else List.replicate 256 0) else [] := by
  rw [← if_congr (slotKind_eq_runout slot) rfl rfl]
  cases slotKind slot <;> rfl

theorem openFrameClaimsStaging : OpenFrameClaimsStaging := by
  intro slot offset flags entries s hr hs ho h1 h2 hring
  refine (tableFrame_payload slot offset flags entries _ s hr hs ho h1 h2).trans (congrArg _ ?_)
  rw [Store.openData_eq, openedImage_eq]
  split
  · rfl
  split
  · rfl
  split
  · rfl
  split
  · rfl
  split
  · rfl
  refine staged_eq_written slot offset entries _ s h2 (fun hlo hhi => ?_)
  rw [if_pos ⟨hlo, hhi⟩]
  split
  · exact hring hlo hhi ‹_›
  · exact List.length_replicate

theorem laterFrameContinuesImage : LaterFrameContinuesImage := by
  intro slot offset flags entries s hr hs ho h1 h2 hring
  refine (tableFrame_payload slot offset flags entries _ s hr hs ho h1 h2).trans (congrArg _ ?_)
  rw [Store.appendData_eq]
  split
  · rfl
  split
  · rfl
  split
  · rfl
  split
  · rfl
  exact staged_eq_written slot offset entries _ s h2 (fun hlo hhi => hring hlo hhi (not_not.mp ‹_›))

/-- Settles O16: both frames end in the same write to the image (`staged_eq_written`). -/
theorem tableFramesBuildStagingImage : Obligations.TableFramesBuildStagingImage :=
  ⟨openFrameClaimsStaging, laterFrameContinuesImage⟩

end Sys2Proof.Machine
end

section
/-! The validation of images (O18). -/

namespace Sys2Proof.Machine

open Sys2Proof.Claims

/-! ## Checks in order -/

theorem firstFailure_eq_none (checks : List (Bool × Nat)) :
    firstFailure checks = none ↔ ∀ c ∈ checks, c.1 = true := by
  induction checks with
  | nil => simp [firstFailure]
  | cons c rest ih => cases hc : c.1 <;> simp [firstFailure, hc, ih]

/-- The first failure is the check that fails behind checks that hold. -/
theorem firstFailure_eq_some (checks : List (Bool × Nat)) (i : Nat) (hi : i < checks.length)
    (hfail : checks[i].1 = false) (hbefore : ∀ m (hm : m < i), checks[m].1 = true) :
    firstFailure checks = some checks[i].2 := by
  induction checks generalizing i with
  | nil => exact absurd hi (Nat.not_lt_zero i)
  | cons c rest ih =>
    cases i with
    | zero =>
      have hc : c.1 = false := hfail
      simp [firstFailure, hc]
    | succ i =>
      have hc : c.1 = true := hbefore 0 (Nat.zero_lt_succ i)
      have hrest := ih i (Nat.lt_of_succ_lt_succ hi) hfail
        (fun m hm => hbefore (m + 1) (Nat.succ_lt_succ hm))
      simpa [firstFailure, hc] using hrest

/-! ## Images of fixed fill (R14) -/

theorem entryIn_iff (image : List Entry) (i : Nat) (lo hi : Int) :
    entryIn image i lo hi = true ↔ lo ≤ entryInt image i ∧ entryInt image i ≤ hi := by
  simp [entryIn]

/-- An image of fixed fill is valid exactly when it has its fill and every entry lies in its range. -/
theorem rangesFault_eq_none (size : Nat) (image : List Entry) (ranges : List (Int × Int)) :
    rangesFault size image ranges = none ↔
      image.length = size ∧
        ∀ r ∈ ranges.zipIdx, r.1.1 ≤ entryInt image r.2 ∧ entryInt image r.2 ≤ r.1.2 := by
  unfold rangesFault
  by_cases hl : image.length = size
  · rw [if_neg (not_not.mpr hl), firstFailure_eq_none]
    simp only [hl, true_and, List.forall_mem_map, entryIn_iff]
  · simp [hl]

/-- The entry reported is the first that lies outside its range. -/
theorem rangesFault_eq_some (image : List Entry) (ranges : List (Int × Int)) (i : Nat)
    (hl : image.length = ranges.length)
    (hout : ∃ r, ranges[i]? = some r ∧ (entryInt image i < r.1 ∨ r.2 < entryInt image i))
    (hin : ∀ m, m < i → ¬ ∃ r, ranges[m]? = some r ∧ (entryInt image m < r.1 ∨ r.2 < entryInt image m)) :
    rangesFault ranges.length image ranges = some i := by
  obtain ⟨r, hr, hout⟩ := hout
  obtain ⟨hi, rfl⟩ := List.getElem?_eq_some_iff.mp hr
  have hfirst := firstFailure_eq_some
    (ranges.zipIdx.map (fun r => (entryIn image r.2 r.1.1 r.1.2, r.2))) i (by simpa using hi)
  simp only [List.getElem_map, List.getElem_zipIdx, Nat.zero_add] at hfirst
  rw [rangesFault, if_neg (not_not.mpr hl)]
  refine hfirst ?_ (fun m hm => ?_)
  · rw [Bool.eq_false_iff, Ne, entryIn_iff]
    omega
  · have hm' : m < ranges.length := hm.trans hi
    rw [entryIn_iff]
    by_contra hbad
    exact hin m hm ⟨ranges[m], List.getElem?_eq_getElem hm', by omega⟩

/-- The ranges of a HEADCAL record are those of R3 wherever the cutoff depth is not negative. -/
theorem headcalRanges_getElem (image : List Entry) (m : Nat) (h : m = 3 → 0 ≤ entryInt image 2) :
    (headcalRanges image)[m]? = (rangesOf image .headcal)[m]? := by
  match m, h with
  | 0, _ => rfl
  | 1, _ => rfl
  | 2, _ => rfl
  | 3, h =>
    show some (max 0 (entryInt image 2), (1000 : Int)) = some (entryInt image 2, 1000)
    rw [max_eq_right (h rfl)]
  | _ + 4, _ => rfl

/-- A cutoff depth that is not outside its range is not negative. -/
theorem cutoff_nonneg (image : List Entry) (h : ¬ outside image .headcal 2) : 0 ≤ entryInt image 2 := by
  by_contra hneg
  exact h ⟨(0, 1000), rfl, Or.inl (not_le.mp hneg)⟩

theorem headcalFault_eq_some (image : List Entry) (i : Nat) (hl : image.length = 16)
    (hout : outside image .headcal i) (hin : ∀ m, m < i → ¬ outside image .headcal m) :
    imageFault .headcal image = some i := by
  have hsame : ∀ m, m ≤ i → (headcalRanges image)[m]? = (rangesOf image .headcal)[m]? := fun m hm =>
    headcalRanges_getElem image m (fun h3 => cutoff_nonneg image (hin 2 (by omega)))
  refine rangesFault_eq_some image (headcalRanges image) i hl ?_ (fun m hm => ?_)
  · rw [hsame i le_rfl]
    exact hout
  · rw [hsame m hm.le]
    exact hin m hm

/-- What an image of a kind of fixed fill is refused with. -/
theorem fixedFault_eq_some (kind : SlotKind) (image : List Entry)
    (hk : kind = .screen ∨ kind = .headcal ∨ kind = .budget) :
    (image.length ≠ (rangesOf image kind).length → imageFault kind image = some image.length) ∧
    (image.length = (rangesOf image kind).length →
      ∀ i, outside image kind i → (∀ m, m < i → ¬ outside image kind m) → imageFault kind image = some i) := by
  rcases hk with rfl | rfl | rfl
  · exact ⟨fun hl => if_pos hl, fun hl i => rangesFault_eq_some image (rangesOf image .screen) i hl⟩
  · exact ⟨fun hl => if_pos hl, fun hl i => headcalFault_eq_some image i hl⟩
  · exact ⟨fun hl => if_pos hl, fun hl i => rangesFault_eq_some image (rangesOf image .budget) i hl⟩

theorem screenFault_eq_none (image : List Entry) :
    imageFault .screen image = none ↔
      image.length = 2 ∧ 64 ≤ entryInt image 0 ∧ entryInt image 0 ≤ 65535 ∧
        (entryInt image 1 = 0 ∨ entryInt image 1 = 1) := by
  have hmode : (0 ≤ entryInt image 1 ∧ entryInt image 1 ≤ 1) ↔ (entryInt image 1 = 0 ∨ entryInt image 1 = 1) := by
    omega
  rw [imageFault, rangesFault_eq_none]
  simp [List.zipIdx_cons, ← hmode, and_assoc]

theorem budgetFault_eq_none (image : List Entry) :
    imageFault .budget image = none ↔
      image.length = 8 ∧ ∀ i, i < 8 → 0 ≤ entryInt image i ∧ entryInt image i ≤ 65535 := by
  rw [imageFault, rangesFault_eq_none, List.forall_mem_zipIdx]
  simp only [List.length_replicate, List.getElem_replicate, Nat.zero_add]

theorem headcalFault_eq_none (image : List Entry) :
    imageFault .headcal image = none ↔
      image.length = 16 ∧ 256 ≤ entryInt image 0 ∧ entryInt image 0 ≤ 16383 ∧
        -4096 ≤ entryInt image 1 ∧ entryInt image 1 ≤ 4095 ∧
        0 ≤ entryInt image 2 ∧ entryInt image 2 ≤ entryInt image 3 ∧ entryInt image 3 ≤ 1000 ∧
        0 ≤ entryInt image 4 ∧ entryInt image 4 ≤ 4095 ∧ 1 ≤ entryInt image 5 ∧ entryInt image 5 ≤ 4095 ∧
        0 ≤ entryInt image 6 ∧ entryInt image 6 ≤ 8191 ∧
        (∀ i, 7 ≤ i → i ≤ 9 → 0 ≤ entryInt image i ∧ entryInt image i ≤ 1023) ∧
        (∀ i, 10 ≤ i → i ≤ 11 → 1 ≤ entryInt image i ∧ entryInt image i ≤ 255) ∧
        (∀ i, 12 ≤ i → i ≤ 13 → 0 ≤ entryInt image i ∧ entryInt image i ≤ 2000) ∧
        0 ≤ entryInt image 14 ∧ entryInt image 14 ≤ 255 ∧ 0 ≤ entryInt image 15 ∧ entryInt image 15 ≤ 200 := by
  have h3 : ∀ P : Nat → Prop, (∀ i, 7 ≤ i → i ≤ 9 → P i) ↔ P 7 ∧ P 8 ∧ P 9 := fun P =>
    ⟨fun h => ⟨h 7 (by decide) (by decide), h 8 (by decide) (by decide), h 9 (by decide) (by decide)⟩,
      fun ⟨h7, h8, h9⟩ i hlo hhi => by interval_cases i <;> assumption⟩
  have h2 : ∀ (P : Nat → Prop) (a : Nat), (∀ i, a ≤ i → i ≤ a + 1 → P i) ↔ P a ∧ P (a + 1) := fun P a =>
    ⟨fun h => ⟨h a (by omega) (by omega), h (a + 1) (by omega) (by omega)⟩,
      fun ⟨ha, hb⟩ i hlo hhi => by
        rcases (by omega : i = a ∨ i = a + 1) with rfl | rfl <;> assumption⟩
  rw [imageFault, rangesFault_eq_none, h3, h2 _ 10, h2 _ 12]
  simp only [headcalRanges, hcCutoff, List.zipIdx_cons, List.zipIdx_nil, List.forall_mem_cons, List.not_mem_nil,
    false_imp_iff, implies_true, Nat.zero_add, Nat.reduceAdd, and_true, max_le_iff]
  omega

/-! ## GRADATION images (R13) -/

/-- A breakpoint entry is accepted exactly when its breakpoint breaks no condition of R13. -/
theorem breakpointOk_iff (image : List Entry) (n j : Nat) :
    breakpointOk n j (entryAt image j) (entryAt image (j + 1)) = true ↔ ¬ breaks image n j := by
  unfold breakpointOk breaks toneOf depthOf
  cases j with
  | zero => by_cases hn : 0 + 1 = n <;> simp [hn] <;> omega
  | succ j => by_cases hn : j + 1 + 1 = n <;> simp [hn] <;> omega

theorem badBreakpoint_eq_none (n : Nat) (image : List Entry) (fuel j : Nat) :
    badBreakpoint n image fuel j = none ↔ ∀ k, j ≤ k → k < j + fuel → ¬ breaks image n k := by
  induction fuel generalizing j with
  | zero => simp [badBreakpoint]; omega
  | succ fuel ih =>
    rw [badBreakpoint]
    by_cases hj : breaks image n j
    · rw [if_neg (fun h => (breakpointOk_iff image n j).mp h hj)]
      exact iff_of_false nofun (fun h => h j le_rfl (by omega) hj)
    · rw [if_pos ((breakpointOk_iff image n j).mpr hj), ih]
      refine ⟨fun h k hlo hhi => ?_, fun h k hlo hhi => h k (by omega) (by omega)⟩
      rcases hlo.eq_or_lt with rfl | hlt
      · exact hj
      · exact h k hlt (by omega)

/-- The breakpoint reported is the first that breaks a condition. -/
theorem badBreakpoint_eq_some (n : Nat) (image : List Entry) (fuel j i : Nat) (hji : j ≤ i) (hi : i < j + fuel)
    (hbad : breaks image n i) (hbefore : ∀ m, m < i → ¬ breaks image n m) :
    badBreakpoint n image fuel j = some (i + 1) := by
  induction fuel generalizing j with
  | zero => omega
  | succ fuel ih =>
    rw [badBreakpoint]
    rcases hji.eq_or_lt with rfl | hlt
    · rw [if_neg (fun h => (breakpointOk_iff image n j).mp h hbad)]
    · rw [if_pos ((breakpointOk_iff image n j).mpr (hbefore j hlt)), ih (j + 1) hlt (by omega)]

/-- The course of the validation of a GRADATION image whose entry 0 holds a count n in 2 to 32. -/
theorem gradationFault_of_count (image : List Entry) (n : Nat) (h2 : 2 ≤ n) (h32 : n ≤ 32) (hne : image ≠ [])
    (hn : entryInt image 0 = n) :
    imageFault .gradation image =
      if image.length ≠ n + 1 then some (min image.length (n + 1)) else badBreakpoint n image n 0 := by
  have hcount : entryNat image 0 = n := by rw [entryNat, hn, Int.toNat_natCast]
  have hin : entryIn image 0 2 32 = true := (entryIn_iff image 0 2 32).mpr (by omega)
  simp only [imageFault, gradationFault, hcount, hin, List.length_eq_zero_iff, if_neg hne]
  rfl

/-- A GRADATION image without a breakpoint count in 2 to 32 is refused at entry 0. -/
theorem gradationFault_badCount (image : List Entry)
    (h : image = [] ∨ entryInt image 0 < 2 ∨ 32 < entryInt image 0) : imageFault .gradation image = some 0 := by
  simp only [imageFault, gradationFault]
  split
  · rfl
  · rename_i hne
    rw [List.length_eq_zero_iff] at hne
    have hin : entryIn image 0 2 32 = false := by
      rw [Bool.eq_false_iff, Ne, entryIn_iff]
      rcases h with h | h
      · exact absurd h hne
      · omega
    simp [hin]

/-- A quantity that does not fall from one breakpoint entry to the next is at most its value in the last. -/
theorem le_last_of_rising (f : Nat → Nat) (n : Nat) (hf : ∀ j, 1 ≤ j → j < n → f j ≤ f (j + 1)) (j : Nat)
    (h1 : 1 ≤ j) (hj : j ≤ n) : f j ≤ f n := by
  induction n, hj using Nat.le_induction with
  | base => exact le_rfl
  | succ n hjn ih => exact (ih (fun k hk hkn => hf k hk (by omega))).trans (hf n (by omega) (by omega))

/-- No breakpoint breaks a condition exactly when the tones rise strictly from 0 to 1000 and the depths do not fall
and stay within 1000. -/
theorem no_breakpoint_breaks_iff (image : List Entry) (n : Nat) (h2 : 2 ≤ n) :
    (∀ j, j < n → ¬ breaks image n j) ↔
      highHalf (entryAt image 1) = 0 ∧ highHalf (entryAt image n) = 1000 ∧ lowHalf (entryAt image n) ≤ 1000 ∧
        ∀ j, 1 ≤ j → j < n →
          highHalf (entryAt image j) < highHalf (entryAt image (j + 1)) ∧
          lowHalf (entryAt image j) ≤ lowHalf (entryAt image (j + 1)) := by
  unfold breaks toneOf depthOf
  constructor
  · intro h
    have hfirst := h 0 (by omega)
    have hlast := h (n - 1) (by omega)
    rw [Nat.zero_add] at hfirst
    rw [Nat.sub_add_cancel (by omega : 1 ≤ n)] at hlast
    refine ⟨by omega, by omega, by omega, fun j h1 hj => ?_⟩
    have hstep := h j hj
    rw [Nat.sub_add_cancel h1] at hstep
    omega
  · rintro ⟨hfirst, hlast, hdeep, hrise⟩ j hj
    have htone := le_last_of_rising (fun k => highHalf (entryAt image k)) n (fun k h1 hk => (hrise k h1 hk).1.le)
      (j + 1) (by omega) hj
    have hdepth := le_last_of_rising (fun k => lowHalf (entryAt image k)) n (fun k h1 hk => (hrise k h1 hk).2)
      (j + 1) (by omega) hj
    rcases Nat.eq_zero_or_pos j with rfl | h1
    · simp only [Nat.zero_add] at *
      omega
    · have hstep := hrise j h1 hj
      rw [Nat.sub_add_cancel h1]
      have hend : j + 1 = n → highHalf (entryAt image (j + 1)) = 1000 := fun e => e ▸ hlast
      omega

theorem gradationFault_eq_none (image : List Entry) :
    imageFault .gradation image = none ↔
      ∃ n : Nat, 2 ≤ n ∧ n ≤ 32 ∧ image.length = n + 1 ∧ (entryAt image 0).toInt = n ∧
        highHalf (entryAt image 1) = 0 ∧ highHalf (entryAt image n) = 1000 ∧
        lowHalf (entryAt image n) ≤ 1000 ∧
        ∀ j, 1 ≤ j → j < n →
          highHalf (entryAt image j) < highHalf (entryAt image (j + 1)) ∧
          lowHalf (entryAt image j) ≤ lowHalf (entryAt image (j + 1)) := by
  have hvalid : ∀ n : Nat, 2 ≤ n → n ≤ 32 → image.length = n + 1 → entryInt image 0 = n →
      (imageFault .gradation image = none ↔ ∀ j, j < n → ¬ breaks image n j) := fun n h2 h32 hl hn => by
    have hne : image ≠ [] := List.ne_nil_of_length_eq_add_one hl
    rw [gradationFault_of_count image n h2 h32 hne hn, if_neg (not_not.mpr hl), badBreakpoint_eq_none]
    simp
  constructor
  · intro h
    by_cases hbad : image = [] ∨ entryInt image 0 < 2 ∨ 32 < entryInt image 0
    · rw [gradationFault_badCount image hbad] at h
      cases h
    obtain ⟨hne, hlo, hhi⟩ : image ≠ [] ∧ 2 ≤ entryInt image 0 ∧ entryInt image 0 ≤ 32 := by
      simpa only [not_or, not_lt] using hbad
    obtain ⟨n, hn⟩ := Int.eq_ofNat_of_zero_le (by omega : 0 ≤ entryInt image 0)
    have hl : image.length = n + 1 := by
      by_contra hl
      rw [gradationFault_of_count image n (by omega) (by omega) hne hn, if_pos hl] at h
      cases h
    have hgood := (hvalid n (by omega) (by omega) hl hn).mp h
    exact ⟨n, by omega, by omega, hl, hn, (no_breakpoint_breaks_iff image n (by omega)).mp hgood⟩
  · rintro ⟨n, h2, h32, hl, hn, hgood⟩
    exact (hvalid n h2 h32 hl hn).mpr ((no_breakpoint_breaks_iff image n h2).mpr hgood)

/-- What a GRADATION image with a good breakpoint count is refused with. -/
theorem gradationFault_eq_some (image : List Entry) (n : Nat) (h2 : 2 ≤ n) (h32 : n ≤ 32) (hne : image ≠ [])
    (hn : entryInt image 0 = n) :
    (image.length ≠ n + 1 → imageFault .gradation image = some (min image.length (n + 1))) ∧
    (image.length = n + 1 → ∀ j, j < n → breaks image n j → (∀ m, m < j → ¬ breaks image n m) →
      imageFault .gradation image = some (j + 1)) := by
  rw [gradationFault_of_count image n h2 h32 hne hn]
  refine ⟨fun hl => if_pos hl, fun hl j hj hbad hbefore => ?_⟩
  rw [if_neg (not_not.mpr hl)]
  exact badBreakpoint_eq_some n image n 0 j (Nat.zero_le j) (by omega) hbad hbefore

/-- Settles O18: the images of fixed fill by the ranges of their entries, a curve by its breakpoints. -/
theorem validImagesAreThoseOfR13AndR14 : Obligations.ValidImagesAreThoseOfR13AndR14 :=
  ⟨⟨gradationFault_eq_none, screenFault_eq_none, headcalFault_eq_none, budgetFault_eq_none, fun _ => rfl⟩,
    fun image => ⟨gradationFault_badCount image, gradationFault_eq_some image⟩, fixedFault_eq_some⟩

end Sys2Proof.Machine
end

section
/-! SUPPORT. What the operations of the Table Store keep of its form and of its tables. -/

namespace Sys2Proof.Machine

/-! ## Readable slots -/

/-- A slot whose contents the blocks may read (R25). -/
def Slot.Readable (v : Slot) : Prop := v.state = .valid ∨ v.state = .bound

theorem Store.lt_of_ne_empty (t : Store) (i : Nat) (h : (t.slot i).state ≠ .empty) : i < 37 := by
  by_contra hi
  rw [Store.slot_above t i (Nat.le_of_not_lt hi)] at h
  exact h rfl

theorem Slot.readable_of_ne {v : Slot} (he : v.state ≠ .empty) (hc : v.state ≠ .committing) : v.Readable := by
  unfold Slot.Readable
  cases hv : v.state with
  | empty => exact absurd hv he
  | committing => exact absurd hv hc
  | valid => exact Or.inl rfl
  | bound => exact Or.inr rfl

theorem Slot.Readable.ne_committing {v : Slot} (h : v.Readable) : v.state ≠ .committing := by
  rcases h with h | h <;> simp [h]

theorem Slot.Readable.ne_empty {v : Slot} (h : v.Readable) : v.state ≠ .empty := by
  rcases h with h | h <;> simp [h]

theorem Store.lt_of_readable {t : Store} {i : Nat} (h : (t.slot i).Readable) : i < 37 :=
  t.lt_of_ne_empty i h.ne_empty

/-- A readable slot keeps its form when only its state moves between VALID and BOUND. -/
theorem Slot.Wf.bound {v : Slot} (h : v.Wf) (hv : v.Readable) : ({ v with state := .bound } : Slot).Wf := by
  rcases hv with hv | hv <;> simpa [Slot.Wf, hv] using h

@[simp] theorem Slot.unbound_entries (v : Slot) : v.unbound.entries = v.entries := by
  unfold Slot.unbound
  split <;> rfl

theorem Slot.unbound_ne_bound (v : Slot) : v.unbound.state ≠ .bound := by
  unfold Slot.unbound
  split
  · exact SlotState.noConfusion
  · assumption

theorem Slot.unbound_committing (v : Slot) : v.unbound.state = .committing ↔ v.state = .committing := by
  unfold Slot.unbound
  split
  · rename_i h
    simp [h]
  · exact Iff.rfl

theorem Slot.unbound_readable (v : Slot) : v.unbound.Readable ↔ v.Readable := by
  unfold Slot.unbound Slot.Readable
  split
  · rename_i h
    simp [h]
  · exact Iff.rfl

/-- The cursor that is left when those on a slot are cleared. -/
theorem Store.clearCursorOn_cursor (i : Nat) (t : Store) (c : Cursor) (h : (t.clearCursorOn i).cursor = some c) :
    t.cursor = some c ∧ c.slot ≠ i := by
  simpa [Store.clearCursorOn, Option.filter_eq_some_iff] using h

/-! ## The tables of a store -/

/-- What `State.TablesChecked` says of the store alone. -/
structure Store.Checked (t : Store) : Prop where
  held : ∀ i, (t.slot i).Readable → ImageOk (slotKind i) (t.slot i).entries
  committed : ∀ i, t.commit = some i → ImageOk (slotKind i) t.image
  ring : ∀ i, t.owner = some i → slotKind i = .runout → ImageOk .runout t.image

theorem State.TablesChecked.store {s : State} (h : s.TablesChecked) : s.store.Checked :=
  ⟨h.held, h.committed, h.ring⟩

/-- A store that keeps its form and its tables is a move, whatever the calibrations propose. -/
theorem StoreMove.of {s : State} {t : Store} (hwf : s.store.Wf → t.Wf)
    (hchecked : s.store.Wf → s.TablesChecked → t.Checked) : StoreMove s t :=
  ⟨hwf, fun hw hc =>
    ⟨(hchecked hw hc).held, (hchecked hw hc).committed, (hchecked hw hc).ring, hc.proposals⟩⟩

/-! ## One slot replaced -/

/-- A slot that is not in commit is replaced by one that is not, and a cursor on it is cleared. -/
theorem Store.Wf.replace {t : Store} (ht : t.Wf) (i : Nat) (v : Slot) (hold : (t.slot i).state ≠ .committing)
    (hv : v.Wf) (hnew : v.state ≠ .committing) : ((t.setSlot i v).clearCursorOn i).Wf where
  slots j hj := by
    rw [Store.slot_clearCursorOn, Store.slot_setSlot]
    split
    · exact hv
    · exact ht.slots j hj
  committing j := by
    rw [Store.slot_clearCursorOn, Store.slot_setSlot]
    split
    · rename_i hij
      refine iff_of_false hnew (fun hc => hold ?_)
      rw [hij.1]
      exact (ht.committing j).mpr hc
    · exact ht.committing j
  owned := ht.owned
  owner := ht.owner
  idle := ht.idle
  cursor c hc := by
    obtain ⟨hc, hne⟩ := Store.clearCursorOn_cursor i (t.setSlot i v) c hc
    rw [Store.slot_clearCursorOn, Store.slot_setSlot, if_neg (fun h => hne h.1.symm)]
    exact ht.cursor c hc

theorem Store.Checked.replace {t : Store} (ht : t.Checked) (i : Nat) (v : Slot)
    (hv : v.Readable → ImageOk (slotKind i) v.entries) : ((t.setSlot i v).clearCursorOn i).Checked where
  held j hj := by
    rw [Store.slot_clearCursorOn, Store.slot_setSlot] at hj ⊢
    split at hj
    · rename_i hij
      rw [if_pos hij, ← hij.1]
      exact hv hj
    · rename_i hij
      rw [if_neg hij]
      exact ht.held j hj
  committed := ht.committed
  ring := ht.ring

/-! ## The staging area -/

theorem Store.Wf.withImage {t : Store} (ht : t.Wf) (i : Nat) (image : List Entry) (hi : i < 37)
    (hc : t.commit = none) : ({ t with owner := some i, image := image } : Store).Wf where
  slots := ht.slots
  committing := ht.committing
  owned j hj := by rw [hc] at hj; cases hj
  owner j hj := by cases hj; exact hi
  idle h := by cases h
  cursor := ht.cursor

theorem Store.Checked.withImage {t : Store} (ht : t.Checked) (i : Nat) (image : List Entry)
    (hc : t.commit = none) (hring : slotKind i = .runout → ImageOk .runout image) :
    ({ t with owner := some i, image := image } : Store).Checked where
  held := ht.held
  committed j hj := by rw [hc] at hj; cases hj
  ring j hj := by cases hj; exact hring

/-- The commit in flight is that of the staging owner, or there is none. -/
theorem Store.Wf.no_commit {t : Store} (ht : t.Wf) {i : Nat} (ho : t.owner = some i) (hc : t.commit ≠ some i) :
    t.commit = none := by
  cases hcm : t.commit with
  | none => rfl
  | some j =>
    have hj := ht.owned j hcm
    rw [ho] at hj
    exact absurd (hcm.trans hj.symm) hc

/-- A clamped runout value lies in its range (R10). -/
theorem clampRunout_range (e : Entry) : -200 ≤ (clampRunout e).toInt ∧ (clampRunout e).toInt ≤ 200 := by
  unfold clampRunout
  split
  · decide
  · split
    · decide
    · omega

/-- A write around a ring keeps it whole and clamped (R4, R10). -/
theorem ringWrite_ok (image : List Entry) (offset : Nat) (entries : List Entry) (h : ImageOk .runout image) :
    ImageOk .runout (ringWrite image offset entries) := by
  induction entries generalizing image offset with
  | nil => exact h
  | cons e rest ih =>
    obtain ⟨hlen, hval⟩ := h.2 rfl
    refine ih _ _ ⟨rfl, fun _ => ⟨by rw [List.length_set, hlen], fun x hx => ?_⟩⟩
    rcases List.mem_or_eq_of_mem_set hx with hx | rfl
    · exact hval x hx
    · exact clampRunout_range e

/-- A write to the staging image leaves a whole and clamped ring, when it has one. -/
theorem Store.staged_keeps (t : Store) (i offset : Nat) (entries image : List Entry) (hi : i < 37)
    (hc : t.commit = none) :
    (t.Wf → (t.staged i (writeImage (slotKind i) image offset entries)).1.Wf) ∧
    (t.Checked → (slotKind i = .runout → ImageOk .runout image) →
      (t.staged i (writeImage (slotKind i) image offset entries)).1.Checked) := by
  by_cases hk : slotKind i = .runout
  · rw [hk]
    exact ⟨fun ht => ht.withImage i _ hi hc,
      fun ht hring => ht.withImage i _ hc (fun _ => ringWrite_ok image offset entries (hring rfl))⟩
  · rw [writeImage_append _ hk]
    split
    · exact ⟨id, fun ht _ => ht⟩
    split
    · exact ⟨id, fun ht _ => ht⟩
    exact ⟨fun ht => ht.withImage i _ hi hc, fun ht _ => ht.withImage i _ hc (fun h => absurd h hk)⟩

/-- The ring an OPEN copies from a VALID slot, or the zeros it starts from otherwise (R8). -/
theorem openedImage_ok (t : Store) (ht : t.Checked) (i : Nat) (hk : slotKind i = .runout) :
    ImageOk .runout (openedImage (slotKind i) (t.slot i)) := by
  rw [hk]
  unfold openedImage
  dsimp only
  split
  · rename_i hv
    have := ht.held i (Or.inl hv)
    rwa [hk] at this
  · refine ⟨rfl, fun _ => ⟨List.length_replicate, fun e he => ?_⟩⟩
    rw [List.eq_of_mem_replicate he]
    decide

theorem Store.openData_keeps (slot offset : Nat) (entries : List Entry) (t : Store) :
    (t.Wf → (t.openData slot offset entries).1.Wf) ∧
    (t.Wf → t.Checked → (t.openData slot offset entries).1.Checked) := by
  rcases t.openData_cases slot offset entries with h | ⟨hi, hc, h⟩
  · rw [h]
    exact ⟨id, fun _ => id⟩
  · rw [h]
    obtain ⟨hwf, hchecked⟩ :=
      t.staged_keeps slot offset entries (openedImage (slotKind slot) (t.slot slot)) hi hc
    exact ⟨hwf, fun _ ht => hchecked ht (openedImage_ok t ht slot)⟩

theorem Store.appendData_keeps (slot offset : Nat) (entries : List Entry) (t : Store) :
    (t.Wf → (t.appendData slot offset entries).1.Wf) ∧
    (t.Wf → t.Checked → (t.appendData slot offset entries).1.Checked) := by
  rcases t.appendData_cases slot offset entries with h | ⟨hi, ho, hc, h⟩
  · rw [h]
    exact ⟨id, fun _ => id⟩
  · rw [h]
    have hkeep := fun ht : t.Wf => t.staged_keeps slot offset entries t.image hi (ht.no_commit ho hc)
    exact ⟨fun ht => (hkeep ht).1 ht, fun ht hch => (hkeep ht).2 hch (hch.ring slot ho)⟩

theorem Store.discard_move (s : State) (hc : s.store.commit = none) :
    StoreMove s { s.store with owner := none, image := [] } :=
  .of
    (fun ht =>
      { slots := ht.slots, committing := ht.committing, owned := fun i hi => by rw [hc] at hi; cases hi
        owner := fun i hi => by cases hi
        idle := fun _ => rfl, cursor := ht.cursor })
    (fun _ hch =>
      { held := hch.held, committed := fun i hi => by rw [hc] at hi; cases hi
        ring := fun i hi => by cases hi })

/-! ## Commit and erase -/

theorem Store.startCommit_slot (t : Store) (i j : Nat) :
    (t.startCommit i).slot j = if i = j ∧ i < 37 then { Slot.blank with state := .committing } else t.slot j :=
  Store.slot_setSlot t i j _

theorem Store.startCommit_move (s : State) (i : Nat) (hc : s.store.commit = none) (ho : s.store.owner = some i)
    (hi : imageFault (slotKind i) s.store.image = none) : StoreMove s (s.store.startCommit i) := by
  have hnone : s.store.Wf → ∀ j, (s.store.slot j).state ≠ .committing := fun ht j hj => by
    have := (ht.committing j).mp hj
    rw [hc] at this
    cases this
  refine .of (fun ht => ⟨fun j hj => ?_, fun j => ?_, fun j hj => ?_, ht.owner, ht.idle, fun c hcur => ?_⟩)
    (fun ht hch => ⟨fun j hj => ?_, fun j hj => ?_, hch.ring⟩)
  · rw [Store.startCommit_slot]
    split
    · exact ⟨rfl, rfl, rfl⟩
    · exact ht.slots j hj
  · rw [Store.startCommit_slot]
    show _ ↔ some i = some j
    split
    · rename_i hij
      exact iff_of_true rfl (congrArg some hij.1)
    · rename_i hij
      refine iff_of_false (hnone ht j) (fun h => hij ⟨Option.some.inj h, ht.owner i ho⟩)
  · cases hj
    exact ho
  · obtain ⟨hcur, hne⟩ := Store.clearCursorOn_cursor i (s.store.setSlot i _) c hcur
    rw [Store.startCommit_slot, if_neg (fun h => hne h.1.symm)]
    exact ht.cursor c hcur
  · rw [Store.startCommit_slot] at hj ⊢
    split at hj
    · exact absurd rfl hj.ne_committing
    · rename_i hij
      rw [if_neg hij]
      exact hch.held j hj
  · cases hj
    exact ⟨hi, fun hk => (hch.ring i ho hk).2 rfl⟩

theorem Store.completeCommit_slot (t : Store) (i j : Nat) :
    (t.completeCommit i).slot j = if i = j ∧ i < 37 then Slot.holding .valid t.image else t.slot j :=
  Store.slot_setSlot t i j _

theorem Store.completeCommit_move (s : State) (i : Nat) (hc : s.store.commit = some i) :
    StoreMove s (s.store.completeCommit i) := by
  refine .of (fun ht => ⟨fun j hj => ?_, fun j => ?_, fun j hj => ?_, fun j hj => ?_, fun _ => rfl, fun c hcur => ?_⟩)
    (fun ht hch => ⟨fun j hj => ?_, fun j hj => ?_, fun j hj => ?_⟩)
  · rw [Store.completeCommit_slot]
    split
    · exact Slot.holding_wf .valid _ (Or.inl rfl)
    · exact ht.slots j hj
  · rw [Store.completeCommit_slot]
    refine iff_of_false ?_ nofun
    split
    · exact SlotState.noConfusion
    · rename_i hij
      intro hj
      have := (ht.committing j).mp hj
      rw [hc] at this
      exact hij ⟨Option.some.inj this, ht.owner i (ht.owned i hc)⟩
  · cases hj
  · cases hj
  · obtain ⟨hread, hoff⟩ := ht.cursor c hcur
    have hne : ¬ (i = c.slot ∧ i < 37) := fun h =>
      Slot.Readable.ne_committing hread ((ht.committing c.slot).mpr (h.1 ▸ hc))
    rw [Store.completeCommit_slot, if_neg hne]
    exact ⟨hread, hoff⟩
  · rw [Store.completeCommit_slot] at hj ⊢
    split at hj
    · rename_i hij
      rw [if_pos hij, ← hij.1]
      exact hch.committed i hc
    · rename_i hij
      rw [if_neg hij]
      exact hch.held j hj
  · cases hj
  · cases hj

theorem Store.erase_move (s : State) (i : Nat) (hv : (s.store.slot i).state = .valid) :
    StoreMove s ((s.store.setSlot i Slot.blank).clearCursorOn i) :=
  .of (fun ht => ht.replace i _ (by simp [hv]) Slot.blank_wf SlotState.noConfusion)
    (fun _ hch => hch.store.replace i _ (fun h => absurd rfl h.ne_empty))

/-! ## Read-back -/

theorem readEntries_length_le (v : Slot) (offset : Nat) (h : offset ≤ v.entries.length) :
    offset + (readEntries v offset).length ≤ v.entries.length := by
  simp only [readEntries, List.length_take, List.length_drop]
  omega

theorem Store.moveCursor_move (s : State) (i offset : Nat)
    (h : s.store.Wf → (s.store.slot i).Readable ∧ offset ≤ (s.store.slot i).entries.length) :
    StoreMove s (s.store.moveCursor i offset) :=
  .of
    (fun ht =>
      { slots := ht.slots, committing := ht.committing, owned := ht.owned, owner := ht.owner, idle := ht.idle
        cursor := fun c hc => by
          cases hc
          exact ⟨(h ht).1, readEntries_length_le _ _ (h ht).2⟩ })
    (fun _ hch => ⟨hch.held, hch.committed, hch.ring⟩)

/-! ## CAL APPLY -/

theorem slotKind_headcalSlot (h : Head) : slotKind (headcalSlot h) = .headcal := by
  revert h
  decide

theorem entryInt_set_same (entries : List Entry) (i : Nat) (e : Entry) (h : i < entries.length) :
    entryInt (entries.set i e) i = e.toInt := by
  simp [entryInt, entryAt, h]

theorem entryInt_set_other (entries : List Entry) (i j : Nat) (e : Entry) (h : i ≠ j) :
    entryInt (entries.set i e) j = entryInt entries j := by
  simp [entryInt, entryAt, h]

/-- A head calibration stays valid with a gain and a base in their ranges (R14, R22). -/
theorem appliedEntries_ok (v : Proposal) (entries : List Entry) (hg : 256 ≤ v.gain ∧ v.gain ≤ 16383)
    (hb : -4096 ≤ v.base ∧ v.base ≤ 4095) (h : ImageOk .headcal entries) :
    ImageOk .headcal (appliedEntries v entries) := by
  have hgain : (BitVec.ofNat 32 v.gain).toInt = v.gain := by
    rw [BitVec.toInt_eq_toNat_of_lt (by rw [BitVec.toNat_ofNat]; omega), BitVec.toNat_ofNat]
    omega
  have hbase : (BitVec.ofInt 32 v.base).toInt = v.base := by
    rw [BitVec.toInt_ofInt, Int.bmod_def]
    omega
  have hrest : ∀ i, 2 ≤ i → entryInt (appliedEntries v entries) i = entryInt entries i := fun i hi => by
    rw [appliedEntries, entryInt_set_other _ _ _ _ (by omega), entryInt_set_other _ _ _ _ (by omega)]
  have hranges : headcalRanges (appliedEntries v entries) = headcalRanges entries := by
    rw [headcalRanges, headcalRanges, hcCutoff, hcCutoff, hrest 2 le_rfl]
  have hold := h.1
  rw [imageFault, rangesFault_eq_none, List.forall_mem_zipIdx] at hold
  obtain ⟨hlen, hin⟩ := hold
  refine ⟨?_, nofun⟩
  rw [imageFault, hranges, rangesFault_eq_none, List.forall_mem_zipIdx]
  refine ⟨by rw [appliedEntries, List.length_set, List.length_set, hlen], fun i hi => ?_⟩
  match i, hi with
  | 0, _ =>
    show (256 : Int) ≤ entryInt _ 0 ∧ entryInt _ 0 ≤ 16383
    rw [appliedEntries, entryInt_set_other _ _ _ _ (by decide), entryInt_set_same _ _ _ (by omega), hgain]
    omega
  | 1, _ =>
    show (-4096 : Int) ≤ entryInt _ 1 ∧ entryInt _ 1 ≤ 4095
    rw [appliedEntries, entryInt_set_same _ _ _ (by rw [List.length_set]; omega), hbase]
    exact hb
  | i + 2, hi =>
    rw [hrest _ (by omega)]
    exact hin (i + 2) hi

theorem Store.apply_move (s : State) (h : Head) (v : Proposal) (hp : (s.cals.get h).proposal = some v)
    (hv : (s.store.slot (headcalSlot h)).state = .valid) : StoreMove s (s.store.apply (headcalSlot h) v) :=
  .of (fun ht => ht.replace _ _ (by simp [hv]) (Slot.holding_wf .valid _ (Or.inl rfl)) SlotState.noConfusion)
    (fun _ hch => hch.store.replace _ _ (fun _ => by
      obtain ⟨hg, hg', hb, hb'⟩ := hch.proposals h v hp
      have hold := hch.held _ (Or.inl hv)
      rw [slotKind_headcalSlot] at hold ⊢
      exact appliedEntries_ok v _ ⟨hg, hg'⟩ ⟨hb, hb'⟩ hold))

/-! ## Binding, unbinding and the soft reset -/

@[simp] theorem Store.bind_image (l : List Nat) (t : Store) : (t.bind l).image = t.image := by
  induction l generalizing t with
  | nil => rfl
  | cons i rest ih => exact ih _

@[simp] theorem Store.bind_cursor (l : List Nat) (t : Store) : (t.bind l).cursor = t.cursor := by
  induction l generalizing t with
  | nil => rfl
  | cons i rest ih => exact ih _

theorem Store.slot_bind_entries (l : List Nat) (t : Store) (i : Nat) :
    ((t.bind l).slot i).entries = (t.slot i).entries := by
  rw [Store.slot_bind]
  split <;> rfl

/-- Binding slots that are readable leaves every slot as readable as it was. -/
theorem Store.slot_bind_readable (l : List Nat) (t : Store) (hl : ∀ i ∈ l, (t.slot i).Readable) (i : Nat) :
    ((t.bind l).slot i).Readable ↔ (t.slot i).Readable := by
  rw [Store.slot_bind]
  split
  · rename_i h
    exact iff_of_true (Or.inr rfl) (hl i h.1)
  · exact Iff.rfl

theorem Store.bind_move (s : State) (l : List Nat) (hl : ∀ i ∈ l, (s.store.slot i).Readable) :
    StoreMove s (s.store.bind l) := by
  refine .of (fun ht => ⟨fun j hj => ?_, fun j => ?_, fun j hj => ?_, fun j hj => ?_, fun hj => ?_, fun c hc => ?_⟩)
    (fun ht hch => ⟨fun j hj => ?_, fun j hj => ?_, fun j hj => ?_⟩)
  · rw [Store.slot_bind]
    split
    · rename_i h
      exact (ht.slots j hj).bound (hl j h.1)
    · exact ht.slots j hj
  · rw [Store.slot_bind, Store.bind_commit]
    split
    · rename_i h
      exact iff_of_false SlotState.noConfusion
        (fun hc => (hl j h.1).ne_committing ((ht.committing j).mpr hc))
    · exact ht.committing j
  · rw [Store.bind_commit] at hj
    rw [Store.bind_owner]
    exact ht.owned j hj
  · rw [Store.bind_owner] at hj
    exact ht.owner j hj
  · rw [Store.bind_owner] at hj
    rw [Store.bind_image]
    exact ht.idle hj
  · rw [Store.bind_cursor] at hc
    rw [Store.slot_bind_entries]
    exact (ht.cursor c hc).imp_left (Store.slot_bind_readable l s.store hl c.slot).mpr
  · rw [Store.slot_bind_entries]
    exact hch.held j ((Store.slot_bind_readable l s.store hl j).mp hj)
  · rw [Store.bind_commit] at hj
    rw [Store.bind_image]
    exact hch.committed j hj
  · rw [Store.bind_owner] at hj
    rw [Store.bind_image]
    exact hch.ring j hj

theorem Store.unbind_move (s : State) : StoreMove s s.store.unbind := by
  refine .of (fun ht => ⟨fun j hj => ?_, fun j => ?_, ht.owned, ht.owner, ht.idle, fun c hc => ?_⟩)
    (fun ht hch => ⟨fun j hj => ?_, hch.committed, hch.ring⟩)
  · rw [Store.slot_unbind]
    exact Slot.unbound_wf _ (ht.slots j hj)
  · rw [Store.slot_unbind, Slot.unbound_committing]
    exact ht.committing j
  · rw [Store.slot_unbind, Slot.unbound_entries]
    exact (ht.cursor c hc).imp_left (Slot.unbound_readable _).mpr
  · rw [Store.slot_unbind] at hj ⊢
    rw [Slot.unbound_entries]
    exact hch.held j ((Slot.unbound_readable _).mp hj)

theorem Store.slot_softReset (t : Store) (i : Nat) : t.softReset.slot i = (t.slot i).softReset := by
  by_cases hi : i < 37
  · exact (Store.slot_mapSlots _ t i).trans (if_pos hi)
  · rw [Store.slot_above t i (Nat.le_of_not_lt hi), Store.slot_above _ i (Nat.le_of_not_lt hi)]
    rfl

theorem Slot.softReset_eq (v : Slot) : v.softReset = if v.state = .committing then Slot.blank else v.unbound := rfl

theorem Slot.softReset_ne_bound (v : Slot) : v.softReset.state ≠ .bound := by
  rw [Slot.softReset_eq]
  split
  · exact SlotState.noConfusion
  · exact v.unbound_ne_bound

theorem Store.softReset_move (s : State) : StoreMove s s.store.softReset := by
  refine .of (fun ht => ⟨fun j hj => ?_, fun j => ?_, nofun, nofun, fun _ => rfl, nofun⟩)
    (fun ht hch => ⟨fun j hj => ?_, nofun, nofun⟩)
  · rw [Store.slot_softReset, Slot.softReset_eq]
    split
    · exact Slot.blank_wf
    · exact Slot.unbound_wf _ (ht.slots j hj)
  · rw [Store.slot_softReset, Slot.softReset_eq]
    refine iff_of_false ?_ nofun
    split
    · exact SlotState.noConfusion
    · rename_i h
      exact fun hc => h ((Slot.unbound_committing _).mp hc)
  · rw [Store.slot_softReset, Slot.softReset_eq] at hj ⊢
    split at hj
    · exact absurd rfl hj.ne_empty
    · rename_i h
      rw [if_neg h, Slot.unbound_entries]
      exact hch.held j ((Slot.unbound_readable _).mp hj)

/-! ## The slots an ARM has checked (R98) -/

theorem Store.unreadable_eq_none (t : Store) (i : Nat) : t.unreadable i = none ↔ (t.slot i).Readable := by
  unfold Store.unreadable Slot.Readable
  cases (t.slot i).state <;> simp

theorem Store.tableFault_eq_none (t : Store) (l : List (Nat × SlotKind)) (h : t.tableFault l = none) :
    ∀ x ∈ l, (t.slot x.1).Readable := by
  induction l with
  | nil => nofun
  | cons x rest ih =>
    rw [Store.tableFault] at h
    split at h
    · cases h
    · split at h
      · cases h
      · rename_i hx
        exact List.forall_mem_cons.mpr ⟨(t.unreadable_eq_none x.1).mp hx, ih h⟩

theorem Store.fixedFault_eq_none (t : Store) (l : List Nat) (h : t.fixedFault l = none) :
    ∀ i ∈ l, (t.slot i).Readable := by
  induction l with
  | nil => nofun
  | cons i rest ih =>
    rw [Store.fixedFault] at h
    split at h
    · cases h
    · rename_i hi
      exact List.forall_mem_cons.mpr ⟨(t.unreadable_eq_none i).mp hi, ih h⟩

/-- An ARM that is not refused finds every slot of the job readable. -/
theorem State.armRefusal_eq_none (r : JobRecord) (s : State) (h : s.armRefusal r = none) :
    ∀ i ∈ r.slots, (s.store.slot i).Readable := by
  have hchecks : s.store.tableFault r.tables = none ∧ s.store.fixedFault r.fixedSlots = none := by
    unfold State.armRefusal at h
    repeat' split at h
    all_goals cases h
    exact ⟨‹_›, ‹_›⟩
  intro i hi
  rcases List.mem_append.mp hi with hi | hi
  · obtain ⟨x, hx, rfl⟩ := List.mem_map.mp hi
    exact s.store.tableFault_eq_none r.tables hchecks.1 x hx
  · exact s.store.fixedFault_eq_none r.fixedSlots hchecks.2 i hi

end Sys2Proof.Machine
end

section
/-! SUPPORT. Every row of the table is a chain of moves, and what a chain of moves keeps of the Table Store (O22). -/

namespace Sys2Proof.Machine

/-! ## The Table Store -/

theorem State.tableFrame_moves (p : List Byte) (f : Nat → Nat → List Entry → Store → StoreAnswer) (s : State)
    (hf : ∀ slot offset entries, (s.store.Wf → (f slot offset entries s.store).1.Wf) ∧
      (s.store.Wf → s.store.Checked → (f slot offset entries s.store).1.Checked)) :
    Moves s (s.tableFrame p f) := by
  unfold State.tableFrame
  dsimp only
  refine Moves.trans (.store _ s ?_) (State.queueReply_moves _ _)
  split
  · exact .of (hf _ _ _).1 (fun ht hch => (hf _ _ _).2 ht hch.store)
  · exact .of id (fun _ hch => hch.store)

/-- TABLE COMMIT leaves the state, or starts the copy of a valid image of a slot that is not BOUND. -/
theorem tableCommit_cases (p : List Byte) (s : State) :
    (tableCommit p s).1 = s ∨
      ∃ i, s.store.commit = none ∧ (s.store.slot i).state ≠ .bound ∧ s.store.owner = some i ∧
        imageFault (slotKind i) s.store.image = none ∧
        (tableCommit p s).1 = { s with store := s.store.startCommit i } := by
  unfold tableCommit
  dsimp only
  split
  · exact Or.inl rfl
  split
  · exact Or.inl rfl
  split
  · exact Or.inl rfl
  split
  · exact Or.inl rfl
  split
  · exact Or.inl rfl
  · rename_i hc hb ho _ hi
    exact Or.inr ⟨_, by simpa using hc, hb, not_not.mp ho, hi, rfl⟩

theorem tableCommit_moves (p : List Byte) (s : State) : Moves s (tableCommit p s).1 := by
  rcases tableCommit_cases p s with h | ⟨i, hc, -, ho, hi, h⟩
  · rw [h]
    exact .refl s
  · rw [h]
    exact .store _ s (Store.startCommit_move s i hc ho hi)

theorem State.commitDone_moves (s : State) : Moves s s.commitDone := by
  unfold State.commitDone
  split
  · rename_i i hc
    exact (Moves.store _ s (Store.completeCommit_move s i hc)).trans (State.post_moves _ _)
  · exact .refl s

/-- TABLE ERASE leaves the state, or empties a VALID slot. -/
theorem tableErase_cases (p : List Byte) (s : State) :
    (tableErase p s).1 = s ∨
      ∃ i, (s.store.slot i).state = .valid ∧
        (tableErase p s).1 = { s with store := (s.store.setSlot i Slot.blank).clearCursorOn i } := by
  unfold tableErase
  dsimp only
  split
  · exact Or.inl rfl
  · cases hv : (s.store.slot (field p 0 1)).state with
    | empty => exact Or.inl rfl
    | committing => exact Or.inl rfl
    | bound => exact Or.inl rfl
    | valid => exact Or.inr ⟨_, hv, rfl⟩

theorem tableErase_moves (p : List Byte) (s : State) : Moves s (tableErase p s).1 := by
  rcases tableErase_cases p s with h | ⟨i, hv, h⟩
  · rw [h]
    exact .refl s
  · rw [h]
    exact .store _ s (Store.erase_move s i hv)

theorem tableDiscard_moves (s : State) : Moves s (tableDiscard s).1 := by
  unfold tableDiscard
  split
  · exact .refl s
  · rename_i hc
    exact .store _ s (Store.discard_move s (by simpa using hc))

theorem tableReadStart_moves (p : List Byte) (s : State) : Moves s (tableReadStart p s).1 := by
  unfold tableReadStart
  dsimp only
  split
  · exact .refl s
  split
  · exact .refl s
  split
  · exact .refl s
  split
  · exact .refl s
  · rename_i hne hnc hoff
    exact .store _ s (Store.moveCursor_move s _ _ (fun _ =>
      ⟨Slot.readable_of_ne hne hnc, (not_le.mp hoff).le⟩))

theorem tableReadContinue_moves (s : State) : Moves s (tableReadContinue s).1 := by
  unfold tableReadContinue
  split
  · exact .refl s
  · rename_i c hc
    exact .store _ s (Store.moveCursor_move s _ _ (fun ht => ht.cursor c hc))

/-! ## The Calibration Unit -/

theorem State.beginCal_moves (h : Head) (u : CalSetup) (s : State) : Moves s (s.beginCal h u) :=
  (s.updCal_moves h _ (CalMove.drop _ _ rfl)).trans
    ((State.updChannel_moves h _ _ (Channel.enter_move _ _)).trans
      (State.updMonitor_moves h _ _ (MonitorMove.keep _ _ rfl)))

theorem calibrate_moves (p : List Byte) (s : State) : Moves s (calibrate p s).1 := by
  unfold calibrate
  split
  · exact .refl s
  · exact .refl s
  · split
    · exact .refl s
    · exact s.beginCal_moves _ _

/-- A fit that succeeds proposes a gain and a base in their ranges (R148). -/
theorem fit_range (u : CalSetup) (lo hi gain : Nat) (base : Int) (h : fit u lo hi = .fitted gain base) :
    256 ≤ gain ∧ gain ≤ 16383 ∧ -4096 ≤ base ∧ base ≤ 4095 := by
  unfold fit at h
  split at h
  · cases h
  split at h
  · cases h
  split at h
  · cases h
  rename_i hgain hbase
  cases h
  simp only [within, Bool.not_eq_true, Bool.not_eq_false', Bool.and_eq_true, decide_eq_true_eq] at hgain
  simp only [Bool.or_eq_true, decide_eq_true_eq, not_or, not_lt] at hbase
  exact ⟨hgain.1, hgain.2, hbase.1, hbase.2⟩

theorem State.runFit_moves (h : Head) (u : CalSetup) (low high : Nat) (s : State) :
    Moves s (s.runFit h u low high) := by
  unfold State.runFit
  split
  · rename_i gain base hfit
    refine (s.updCal_moves h _ (fun p hp => ?_)).trans ((State.post_moves _ _).trans (State.endCal_moves h _))
    cases hp
    exact Or.inr (fit_range u _ _ _ _ hfit)
  · exact s.failCal_moves h _ _

theorem State.measured_moves (h : Head) (u : CalSetup) (level width : Nat) (s : State) :
    Moves s (s.measured h u level width) := by
  have hstore : Moves s (s.updCal h (Calibration.store level width)) :=
    s.updCal_moves h _ (CalMove.keep _ _ (by unfold Calibration.store; split <;> rfl))
  unfold State.measured
  dsimp only
  split
  · exact hstore.trans (State.runFit_moves h u _ _ _)
  · exact hstore
  · exact hstore

theorem calMeasure_moves (p : List Byte) (s : State) : Moves s (calMeasure p s).1 := by
  unfold calMeasure
  split
  · exact .refl s
  split
  · exact .refl s
  split
  · exact .refl s
  · exact .refl s
  · exact .refl s
  · unfold measureLevel
    dsimp only
    split
    · exact .refl s
    split
    · exact .refl s
    · exact s.measured_moves _ _ _ _

/-- CAL APPLY leaves the state, or writes the proposal of a head into its VALID slot and consumes it. -/
theorem calApply_cases (p : List Byte) (s : State) :
    (calApply p s).1 = s ∨
      ∃ h v, (s.cals.get h).proposal = some v ∧ (s.store.slot (headcalSlot h)).state = .valid ∧
        (calApply p s).1 =
          { s with store := s.store.apply (headcalSlot h) v }.updCal h (fun r => { r with proposal := none }) := by
  unfold calApply
  split
  · exact Or.inl rfl
  · rename_i h _
    split
    · exact Or.inl rfl
    · rename_i v hv
      cases hs : (s.store.slot (headcalSlot h)).state with
      | empty => exact Or.inl rfl
      | committing => exact Or.inl rfl
      | bound => exact Or.inl rfl
      | valid => exact Or.inr ⟨h, v, hv, hs, rfl⟩

theorem calApply_moves (p : List Byte) (s : State) : Moves s (calApply p s).1 := by
  rcases calApply_cases p s with h | ⟨h, v, hv, hs, he⟩
  · rw [h]
    exact .refl s
  · rw [he]
    exact (Moves.store _ s (Store.apply_move s h v hv hs)).trans
      (State.updCal_moves h _ _ (CalMove.drop _ _ rfl))

theorem calCancel_moves (p : List Byte) (s : State) : Moves s (calCancel p s).1 := by
  unfold calCancel
  split
  · exact .refl s
  · split
    · exact s.failCal_moves _ _ _
    · exact .refl s

theorem State.measurementExpiry_moves (h : Head) (s : State) : Moves s (s.measurementExpiry h) := by
  unfold State.measurementExpiry
  split
  · exact s.failCal_moves h _ _
  · exact .refl s

theorem stylusWear_moves (p : List Byte) (s : State) : Moves s (stylusWear p s).1 := by
  unfold stylusWear
  split
  · exact .refl s
  · split
    · exact .refl s
    · exact s.updChannel_moves _ (fun c => { c with wear := field p 1 2, wearSub := 0 }) ⟨rfl, id⟩

/-! ## The Job Controller and the timing settings -/

theorem timingSet_moves (p : List Byte) (s : State) : Moves s (timingSet p s).1 := by
  unfold timingSet
  split
  · exact .refl s
  · split
    · exact .refl s
    · exact .free _ _ _ _ _ _ s

theorem jobDefine_moves (p : List Byte) (s : State) : Moves s (jobDefine p s).1 := by
  unfold jobDefine
  split
  · exact .refl s
  · exact .ofJob _ s

theorem historyOrdered_nil (tag : BitVec 8) : historyOrdered tag [] :=
  ⟨Nat.zero_le 16, fun i hi => absurd hi (Nat.not_lt_zero i)⟩

theorem MonitorMove.clear (m n : Monitor) (hn : n.history = []) : MonitorMove m n := by
  intro tag _
  rw [hn]
  exact historyOrdered_nil tag

theorem armedChannel_move (r : JobRecord) (h : Head) (c : Channel) : ChannelMove c (armedChannel r h c) := by
  unfold armedChannel
  split
  · exact Channel.enter_move _ c
  · exact ChannelMove.refl c

theorem offIf_move (leaves : ChannelState → Bool) (c : Channel) : ChannelMove c (offIf leaves c) := by
  unfold offIf
  split
  · exact Channel.enter_move _ c
  · exact ChannelMove.refl c

theorem State.engage_moves (r : JobRecord) (s : State) (hr : ∀ i ∈ r.slots, (s.store.slot i).Readable) :
    Moves s (s.engage r) :=
  (Moves.store _ s (Store.bind_move s r.slots hr)).trans
    ((Moves.channels (s.channels.mapIdx (armedChannel r)) _
        (fun h => by rw [PerHead.get_mapIdx]; exact armedChannel_move r h _)).trans
      ((Moves.monitors (s.monitors.mapIdx (armedMonitor r (fun h => s.headcal h))) _
          (fun h => by rw [PerHead.get_mapIdx]; exact MonitorMove.clear _ _ rfl)).trans
        ((Moves.queues (PerHead.const (Queue.prepared r.startTrack)) _
            (fun h => by rw [PerHead.get_const]; exact fun _ => Queue.Shaped.nil _ rfl)).trans
          (.free _ _ _ _ _ _ _))))

theorem armRow_moves (s : State) : Moves s (arm s).1 := by
  unfold arm
  split
  · exact .refl s
  · rename_i r _
    split
    · exact .refl s
    · rename_i hr
      exact (s.engage_moves r (s.armRefusal_eq_none r hr)).trans (State.post_moves _ _)

theorem State.freeHeads_moves (leaves : ChannelState → Bool) (s : State) : Moves s (s.freeHeads leaves) :=
  (Moves.store _ s (Store.unbind_move s)).trans
    ((Moves.channels (s.channels.mapIdx (fun _ => offIf leaves)) _
        (fun h => by rw [PerHead.get_mapIdx]; exact offIf_move leaves _)).trans
      ((Moves.queues (s.queues.mapIdx (fun _ => Queue.emptied)) _
          (fun h => by rw [PerHead.get_mapIdx]; exact Queue.emptied_move _)).trans
        (.free _ _ _ _ _ _ _)))

theorem State.disarmJob_moves (s : State) : Moves s s.disarmJob :=
  (s.freeHeads_moves _).trans ((State.postAll_moves _ _).trans (State.post_moves _ _))

theorem State.releaseJob_moves (s : State) : Moves s s.releaseJob :=
  (s.freeHeads_moves _).trans
    ((Moves.monitors _ _ (fun h => by rw [PerHead.get_mapIdx]; exact MonitorMove.clear _ _ rfl)).trans
      ((State.postAll_moves _ _).trans (State.post_moves _ _)))

theorem State.startJob_moves (s : State) : Moves s s.startJob :=
  (Moves.ofCtu _ s).trans ((State.enterJob_moves _ _ _ _).trans (State.actFeedFault_moves _))

theorem start_moves (s : State) : Moves s (start s).1 := by
  unfold start
  split
  · exact .refl s
  split
  · exact .refl s
  · exact s.startJob_moves

theorem headPark_moves (p : List Byte) (s : State) : Moves s (headPark p s).1 := by
  unfold headPark
  split
  · exact .refl s
  · split
    · exact s.leaveJob_moves _ _ _
    · exact .refl s

theorem trackDiscard_moves (p : List Byte) (s : State) : Moves s (trackDiscard p s).1 := by
  unfold trackDiscard
  split
  · exact .refl s
  · split
    · exact .refl s
    · exact s.updQueue_moves _ _ (Queue.discardFilling_move _)

/-! ## The Report Unit -/

theorem noticeMask_moves (p : List Byte) (s : State) : Moves s (noticeMask p s).1 := by
  unfold noticeMask
  split
  · exact .refl s
  · exact .ofRpt _ s

theorem noticeSkip_moves (p : List Byte) (s : State) : Moves s (noticeSkip p s).1 := by
  unfold noticeSkip
  split
  · exact .refl s
  · exact .ofRpt _ s

theorem countersRead_same (p : List Byte) (s : State) : (countersRead p s).1 = s := by
  unfold countersRead
  split <;> rfl

theorem countersClear_moves (p : List Byte) (s : State) : Moves s (countersClear p s).1 := by
  unfold countersClear
  split
  · exact .refl s
  · exact s.updCounters_moves _ _

/-! ## Resets -/

theorem State.dropNotices_moves (s : State) : Moves s { s with fli := { s.fli with notices := [] } } :=
  .link { s.fli with notices := [] } s ⟨id, fun _ => Nat.zero_le 32, id⟩

theorem State.softReset_moves (s : State) : Moves s s.softReset :=
  (Moves.store _ s (Store.softReset_move s)).trans
    ((Moves.channels (s.channels.mapIdx (fun _ => Channel.softReset)) _
        (fun h => by rw [PerHead.get_mapIdx]; exact ⟨rfl, fun _ => rfl⟩)).trans
      ((Moves.queues (s.queues.mapIdx (fun _ => Queue.emptied)) _
          (fun h => by rw [PerHead.get_mapIdx]; exact Queue.emptied_move _)).trans
        ((Moves.monitors (s.monitors.mapIdx (fun _ => Monitor.softReset)) _
            (fun h => by rw [PerHead.get_mapIdx]; exact MonitorMove.clear _ _ rfl)).trans
          ((Moves.cals (PerHead.const Calibration.afterReset) _
              (fun h => by rw [PerHead.get_const]; exact CalMove.drop _ _ rfl)).trans
            ((State.dropNotices_moves _).trans (.free _ _ _ _ _ _ _))))))

theorem State.leaveHeld_moves (s : State) : Moves s s.leaveHeld := by
  unfold State.leaveHeld
  split
  · exact .refl s
  · exact .free _ _ _ _ _ _ s

/-! ## The receive side -/

theorem State.receiving_moves (r : Receive) (s : State) (hr : s.fli.receive.Counted → r.Counted) :
    Moves s (s.receiving r) := .link _ s ⟨id, id, hr⟩

/-- A frame given up for a link error: the hunt starts. -/
theorem State.giveUp_moves (k : LinkErrorClass) (s : State) : Moves s ((s.linkErrorOf k).receiving .hunt) :=
  (s.linkErrorOf_moves k).trans (State.receiving_moves .hunt _ (fun _ => trivial))

theorem State.intervalExpiry_moves (s : State) : Moves s s.intervalExpiry := by
  unfold State.intervalExpiry
  split
  · exact .refl s
  · exact s.receiving_moves .hunt (fun _ => trivial)
  · exact s.giveUp_moves .length
  · exact s.giveUp_moves .length
  · exact s.giveUp_moves .length

theorem State.headerByte_moves (stored : List Byte) (b : Byte) (s : State)
    (hs : s.fli.receive = .header stored) : Moves s (s.headerByte stored b) := by
  unfold State.headerByte
  split
  · unfold State.headerDone
    split
    · exact s.giveUp_moves .length
    split
    · exact s.receiving_moves _ (fun _ => Nat.zero_le 4096)
    · rename_i hmax hpos
      exact s.receiving_moves _ (fun _ => ⟨Nat.pos_of_ne_zero hpos, Nat.not_lt.mp hmax⟩)
  · rename_i hthree
    refine s.receiving_moves _ (fun hc => ?_)
    rw [hs] at hc
    have hlt : stored.length < 4 := hc
    have hne : stored.length ≠ 3 := fun h3 => by
      obtain ⟨k, h, l, rfl⟩ := List.length_eq_three.mp h3
      exact hthree k h l rfl
    show (stored ++ [b]).length < 4
    rw [List.length_append, List.length_singleton]
    omega

theorem State.payloadByte_moves (kind head : Byte) (length : Nat) (stored : List Byte) (b : Byte) (s : State)
    (hs : s.fli.receive = .payload kind head length stored) :
    Moves s (s.payloadByte kind head length stored b) := by
  have hcount : s.fli.receive.Counted → stored.length < length ∧ length ≤ 4096 := fun hc => by
    rwa [hs] at hc
  unfold State.payloadByte
  split
  · refine s.receiving_moves _ (fun hc => ?_)
    obtain ⟨hlt, hmax⟩ := hcount hc
    show (stored ++ [b]).length ≤ 4096
    rw [List.length_append, List.length_singleton]
    omega
  · rename_i hmore
    refine s.receiving_moves _ (fun hc => ⟨?_, (hcount hc).2⟩)
    rw [List.length_append, List.length_singleton]
    omega

theorem State.lineFree_moves (s : State) : Moves s s.lineFree :=
  .link { s.fli with line := none } s ⟨id, id, id⟩

/-! ## The rows -/

/-- The row of a good frame is a chain of moves. -/
theorem takeFrame_moves (i : Instr) (s t : State) (h : takeFrame i s = .next t) : Moves s t := by
  cases i with
  | identify tag p => exact command_moves _ tag p _ s t (.refl s) h
  | statusSnapshot tag p => exact command_moves _ tag p _ s t (.ofRpt _ s) h
  | reset tag p => exact command_moves _ tag p _ s t s.softReset_moves h
  | timingSet tag p => exact command_moves _ tag p _ s t (timingSet_moves p s) h
  | tableDiscard tag p => exact command_moves _ tag p _ s t (tableDiscard_moves s) h
  | tableCommit tag p => exact command_moves _ tag p _ s t (tableCommit_moves p s) h
  | tableErase tag p => exact command_moves _ tag p _ s t (tableErase_moves p s) h
  | tableReadStart tag p => exact command_moves _ tag p _ s t (tableReadStart_moves p s) h
  | tableReadContinue tag p => exact command_moves _ tag p _ s t (tableReadContinue_moves s) h
  | jobDefine tag p => exact command_moves _ tag p _ s t (jobDefine_moves p s) h
  | arm tag p => exact command_moves _ tag p _ s t (armRow_moves s) h
  | disarm tag p => exact command_moves _ tag p _ s t s.disarmJob_moves h
  | start tag p => exact command_moves _ tag p _ s t (start_moves s) h
  | stop tag p => exact command_moves _ tag p _ s t (State.enterJob_moves _ _ _ s) h
  | abort tag p => exact command_moves _ tag p _ s t (s.abortJob_moves _) h
  | release tag p => exact command_moves _ tag p _ s t s.releaseJob_moves h
  | headPark tag p => exact command_moves _ tag p _ s t (headPark_moves p s) h
  | trackDiscard tag p => exact command_moves _ tag p _ s t (trackDiscard_moves p s) h
  | calibrate tag p => exact command_moves _ tag p _ s t (calibrate_moves p s) h
  | calMeasure tag p => exact command_moves _ tag p _ s t (calMeasure_moves p s) h
  | calApply tag p => exact command_moves _ tag p _ s t (calApply_moves p s) h
  | calCancel tag p => exact command_moves _ tag p _ s t (calCancel_moves p s) h
  | stylusWear tag p => exact command_moves _ tag p _ s t (stylusWear_moves p s) h
  | noticeMask tag p => exact command_moves _ tag p _ s t (noticeMask_moves p s) h
  | noticeSkip tag p => exact command_moves _ tag p _ s t (noticeSkip_moves p s) h
  | countersRead tag p =>
    exact command_moves _ tag p _ s t (by rw [countersRead_same]; exact .refl s) h
  | countersClear tag p => exact command_moves _ tag p _ s t (countersClear_moves p s) h
  | unknownCommand code tag => exact serve_moves _ s t (s.queueReply_moves _) h
  | shortCommandPayload p => exact serve_moves _ s t (s.queueReply_moves _) h
  | trackPart b p => exact serve_moves _ s t (s.trackPart_moves b p) h
  | tableDataOpen p =>
    exact serve_moves _ s t (s.tableFrame_moves p _ (fun slot offset entries =>
      s.store.openData_keeps slot offset entries)) h
  | tableData p =>
    exact serve_moves _ s t (s.tableFrame_moves p _ (fun slot offset entries =>
      s.store.appendData_keeps slot offset entries)) h
  | kindError kind => exact serve_moves _ s t (s.linkErrorOf_moves _) h
  | feedByte _ | byteIntervalTimeout | returnFrameSent | commitCompletion | forwardCount _ | reverseCount
  | indexPulse _ | stall | measurementTimeout _ | estop _ | feedFault _ | bankChange _ | monitorSample _ _ _
  | resetNAssert | resetNRelease | powerOn | powerOnRelease | supplyFall =>
    cases h
    exact .refl s

theorem receiveByte_moves (b : Byte) (s t : State) (h : receiveByte b s = .next t) : Moves s t := by
  unfold receiveByte at h
  split at h
  · split at h
    · cases h
      exact s.receiving_moves _ (fun _ => trivial)
    · cases h
      exact .refl s
  · split at h
    · cases h
      exact s.receiving_moves _ (fun _ => Nat.zero_lt_succ 3)
    split at h
    · cases h
      exact .refl s
    · cases h
      exact s.receiving_moves _ (fun _ => trivial)
  · cases h
    exact s.headerByte_moves _ b ‹_›
  · cases h
    exact s.payloadByte_moves _ _ _ _ b ‹_›
  · rename_i hs
    cases h
    refine s.receiving_moves _ (fun hc => ?_)
    rwa [hs] at hc
  · unfold frameEnd at h
    split at h
    · exact (s.receiving_moves .hunt (fun _ => trivial)).trans (takeFrame_moves _ _ t h)
    · cases h
      exact s.giveUp_moves .crc

theorem execEstop_moves (level : Bool) (s t : State) (h : execEstop level s = .next t) : Moves s t := by
  unfold execEstop at h
  split at h
  · cases h
    exact .ofLines _ s
  split at h
  · cases h
    exact .refl s
  · exact (Moves.ofLines _ s).trans (serve_moves _ _ t (State.estopChange_moves level _) h)

theorem execBankChange_moves (bank : BitVec 3) (s t : State) (h : execBankChange bank s = .next t) : Moves s t := by
  unfold execBankChange at h
  split at h
  · cases h
    exact .ofLines _ s
  split at h
  · cases h
    exact .refl s
  · exact (Moves.ofLines _ s).trans (serve_moves _ _ t (State.changeBank_moves bank _) h)

/-- Every row is a chain of moves. -/
theorem exec_moves (c : Instr) (s t : State) (h : exec c s = .next t) : Moves s t := by
  have hframe := takeFrame_moves c s t
  cases c with
  | feedByte b =>
    replace h : (if s.inReset then Host.Outcome.next s else receiveByte b s) = .next t := h
    split at h
    · cases h
      exact .refl s
    · exact receiveByte_moves b s t h
  | byteIntervalTimeout => exact serve_moves _ s t s.intervalExpiry_moves h
  | returnFrameSent => exact serve_moves _ s t s.lineFree_moves h
  | commitCompletion => exact serve_moves _ s t s.commitDone_moves h
  | forwardCount time => exact serve_moves _ s t (s.forwardCount_moves time) h
  | reverseCount => exact serve_moves _ s t s.reverseCount_moves h
  | indexPulse time => exact serve_moves _ s t (s.indexPulse_moves time) h
  | stall => exact serve_moves _ s t s.stallExpiry_moves h
  | measurementTimeout head => exact serve_moves _ s t (s.measurementExpiry_moves head) h
  | estop level => exact execEstop_moves level s t h
  | feedFault level =>
    exact (Moves.ofLines _ s).trans (serve_moves _ _ t (State.actFeedFault_moves _) h)
  | bankChange bank => exact execBankChange_moves bank s t h
  | monitorSample head value tag => exact serve_moves _ s t (s.sample_moves head _ tag) h
  | resetNAssert =>
    cases h
    exact (Moves.ofLines _ s).trans (.fullReset _)
  | resetNRelease =>
    replace h : (if s.lines.resetN then Host.Outcome.next s
      else .next (State.leaveHeld { s with lines := { s.lines with resetN := true } })) = .next t := h
    split at h
    · cases h
      exact .refl s
    · cases h
      exact (Moves.ofLines _ s).trans (State.leaveHeld_moves _)
  | powerOn =>
    cases h
    exact (Moves.ofLines _ s).trans (.fullReset _)
  | powerOnRelease =>
    replace h : (if s.lines.powerHeld then
      Host.Outcome.next (State.leaveHeld { s with lines := { s.lines with powerHeld := false } })
      else .next s) = .next t := h
    split at h
    · cases h
      exact (Moves.ofLines _ s).trans (State.leaveHeld_moves _)
    · cases h
      exact .refl s
  | supplyFall =>
    cases h
    exact (Moves.ofLines _ s).trans (.fullReset _)
  | _ => exact hframe h

/-! ## What a chain of moves keeps of the Table Store -/

theorem Store.afterReset_wf : Store.afterReset.Wf where
  slots i _ := by rw [Store.slot_afterReset]; exact Slot.blank_wf
  committing i := by rw [Store.slot_afterReset]; exact iff_of_false SlotState.noConfusion nofun
  owned := nofun
  owner := nofun
  idle _ := rfl
  cursor := nofun

theorem Store.afterReset_checked : Store.afterReset.Checked where
  held i hi := by rw [Store.slot_afterReset] at hi; exact absurd rfl hi.ne_empty
  committed := nofun
  ring := nofun

/-- `State.TablesChecked` speaks of the store and of the proposals alone. -/
theorem State.TablesChecked.of {s : State} (hs : s.store.Checked)
    (hp : ∀ (h : Head) p, (s.cals.get h).proposal = some p →
      256 ≤ p.gain ∧ p.gain ≤ 16383 ∧ -4096 ≤ p.base ∧ p.base ≤ 4095) : s.TablesChecked :=
  ⟨hs.held, hs.committed, hs.ring, hp⟩

theorem Moves.tables {s t : State} (h : Moves s t) :
    s.store.Wf ∧ s.TablesChecked → t.store.Wf ∧ t.TablesChecked := by
  induction h with
  | refl s => exact id
  | trans _ _ ihs iht => exact fun hs => iht (ihs hs)
  | free | link | channels | monitors | queues => exact fun hs => ⟨hs.1, .of hs.2.store hs.2.proposals⟩
  | cals cs s hc =>
    refine fun hs => ⟨hs.1, .of hs.2.store (fun h p hp => ?_)⟩
    rcases hc h p hp with hold | hrange
    · exact hs.2.proposals h p hold
    · exact hrange
  | store t s ht => exact fun hs => ⟨ht.1 hs.1, ht.2 hs.1 hs.2⟩
  | emit h k s =>
    obtain ⟨hstore, -, -, -, hcals, -⟩ := s.emit_frame h k
    intro hs
    rw [hstore]
    exact ⟨hs.1, .of (by rw [hstore]; exact hs.2.store) (by rw [hcals]; exact hs.2.proposals)⟩
  | fullReset s =>
    refine fun _ => ⟨Store.afterReset_wf, .of Store.afterReset_checked (fun h p hp => ?_)⟩
    have hnone : (s.fullReset.cals.get h).proposal = none :=
      congrArg Calibration.proposal (PerHead.get_const Calibration.afterReset h)
    rw [hnone] at hp
    cases hp

/-- A step is the row at the front of the queue, or nothing. -/
theorem step_cases (s t : State) (h : step s = .next t) :
    t = s ∨ ∃ c rest, s.pending = c :: rest ∧ exec c { s with pending := rest } = .next t := by
  unfold step at h
  split at h
  · cases h
    exact Or.inl rfl
  · exact Or.inr ⟨_, _, ‹_›, h⟩

/-- Settles O22: every step is a chain of moves. -/
theorem tableStoreStaysCheckedAndCoherent : Obligations.TableStoreStaysCheckedAndCoherent := by
  intro s t hwf hchecked h
  rcases step_cases s t h with rfl | ⟨c, rest, -, h⟩
  · exact ⟨hwf, hchecked⟩
  · exact (exec_moves c _ t h).tables ⟨hwf, .of hchecked.store hchecked.proposals⟩

end Sys2Proof.Machine
end

section
/-! SUPPORT. What the events of a job leave alone: the job record, the phase outside SETUP, the timing settings, the
notice mask and the wear of the heads. One lemma per shared operation. -/

namespace Sys2Proof.Machine

/-- The settings of the part that only their own rows change, and whether the job state is SETUP. -/
structure Standing where
  record : Option JobRecord
  inSetup : Bool
  timing : Option TimingSettings
  mask : BitVec 32

/-- The standing settings of a state. -/
def State.standing (s : State) : Standing := ⟨s.job.record, s.job.state == .setup, s.ctu.settings, s.rpt.mask⟩

/-- The wear count and sub-count of each head (R91). -/
def State.wears (s : State) : PerHead (Nat × BitVec 16) := s.channels.mapIdx (fun _ c => (c.wear, c.wearSub))

/-- The standing settings and the wear. -/
def State.settled (s : State) : Standing × PerHead (Nat × BitVec 16) := (s.standing, s.wears)

/-! ## Updates -/

/-- The fields the standing settings and the wear are read from. -/
theorem State.settled_congr {s t : State} (hj : t.job = s.job) (ht : t.ctu.settings = s.ctu.settings)
    (hm : t.rpt.mask = s.rpt.mask) (hc : t.channels = s.channels) : t.settled = s.settled := by
  simp only [State.settled, State.standing, State.wears, hj, ht, hm, hc]

/-- A channel that keeps its wear leaves the wear of the heads. -/
theorem wears_set (p : PerHead Channel) (h : Head) (c : Channel) (hw : c.wear = (p.get h).wear)
    (hs : c.wearSub = (p.get h).wearSub) :
    (p.set h c).mapIdx (fun _ c => (c.wear, c.wearSub)) = p.mapIdx (fun _ c => (c.wear, c.wearSub)) := by
  refine PerHead.ext_get _ _ (fun k => ?_)
  rw [PerHead.get_mapIdx, PerHead.get_mapIdx, PerHead.get_set]
  split
  · rename_i hk
    rw [hk, hw, hs]
  · rfl

theorem State.updChannel_settled (h : Head) (f : Channel → Channel) (s : State)
    (hw : (f (s.channels.get h)).wear = (s.channels.get h).wear)
    (hs : (f (s.channels.get h)).wearSub = (s.channels.get h).wearSub) :
    (s.updChannel h f).settled = s.settled :=
  congrArg (Prod.mk s.standing) (wears_set s.channels h _ hw hs)

@[simp] theorem State.updChannel_standing (h : Head) (f : Channel → Channel) (s : State) :
    (s.updChannel h f).standing = s.standing := rfl
@[simp] theorem State.updQueue_settled (h : Head) (f : Queue → Queue) (s : State) :
    (s.updQueue h f).settled = s.settled := rfl
@[simp] theorem State.updMonitor_settled (h : Head) (f : Monitor → Monitor) (s : State) :
    (s.updMonitor h f).settled = s.settled := rfl
@[simp] theorem State.updCal_settled (h : Head) (f : Calibration → Calibration) (s : State) :
    (s.updCal h f).settled = s.settled := rfl
@[simp] theorem State.updCounters_settled (h : Head) (f : HeadCounters → HeadCounters) (s : State) :
    (s.updCounters h f).settled = s.settled := rfl
@[simp] theorem State.updCells_settled (h : Head) (f : CellCounters → CellCounters) (s : State) :
    (s.updCells h f).settled = s.settled := rfl
@[simp] theorem State.setDemand_settled (h : Head) (n : Nat) (s : State) :
    (s.setDemand h n).settled = s.settled := rfl
@[simp] theorem State.post_settled (e : Event) (s : State) : (s.post e).settled = s.settled := rfl
@[simp] theorem State.queueReply_settled (f : ReturnFrame) (s : State) : (s.queueReply f).settled = s.settled := rfl
@[simp] theorem State.arbitrate_settled (s : State) : s.arbitrate.settled = s.settled := rfl
@[simp] theorem State.receiving_settled (r : Receive) (s : State) : (s.receiving r).settled = s.settled := rfl
@[simp] theorem State.dropFeed_settled (s : State) : s.dropFeed.settled = s.settled := rfl
@[simp] theorem State.lineFree_settled (s : State) : s.lineFree.settled = s.settled := rfl

@[simp] theorem State.linkErrorOf_settled (k : LinkErrorClass) (s : State) :
    (s.linkErrorOf k).settled = s.settled := by
  cases k <;> rfl

@[simp] theorem State.postAll_settled (es : List Event) (s : State) : (s.postAll es).settled = s.settled := by
  induction es generalizing s with
  | nil => rfl
  | cons e es ih => exact ih (s.post e)

@[simp] theorem State.enterChannel_settled (h : Head) (st : ChannelState) (s : State) :
    (s.updChannel h (Channel.enter st)).settled = s.settled := s.updChannel_settled h _ rfl rfl

@[simp] theorem State.leaveChannel_settled (h : Head) (st : ChannelState) (cause : StopCause) (s : State) :
    (s.updChannel h (Channel.leave st cause)).settled = s.settled := s.updChannel_settled h _ rfl rfl

/-- A step for the four heads leaves what a step for one head leaves. -/
theorem forHeads_settled (f : Head → State → State) (hf : ∀ h s, (f h s).settled = s.settled) (s : State) :
    (forHeads f s).settled = s.settled := forHeads_view State.settled f hf s

/-! ## Leaving the job and abort -/

/-- A live job is outside SETUP. -/
theorem ne_setup_of_live {j : JobState} (h : jobLive j = true) : (j == .setup) = false := by
  cases j with
  | setup => cases h
  | armed | running | stopping | ended | aborted => rfl

/-- A change of job state outside SETUP. -/
theorem State.enterJob_settled (st : JobState) (r : Option JobResult) (c : Option StopCause) (s : State)
    (hs : (s.job.state == .setup) = false) (hst : (st == .setup) = false) :
    (s.enterJob st r c).settled = s.settled := by
  simp [State.settled, State.standing, State.wears, State.enterJob, hs, hst]

@[simp] theorem State.endJob_settled (s : State) : s.endJob.settled = s.settled := by
  unfold State.endJob
  split
  · rename_i hlive
    exact s.enterJob_settled _ _ _ (ne_setup_of_live (Bool.and_eq_true_iff.mp hlive).1) rfl
  · rfl

@[simp] theorem State.depart_settled (h : Head) (st : ChannelState) (cause : StopCause) (s : State) :
    (s.depart h st cause).settled = s.settled :=
  congrArg (Prod.mk s.standing) (wears_set s.channels h _ rfl rfl)

@[simp] theorem State.leaveJob_settled (h : Head) (st : ChannelState) (cause : StopCause) (s : State) :
    (s.leaveJob h st cause).settled = s.settled := by
  simp [State.leaveJob]

@[simp] theorem State.haltIfActive_settled (cause : StopCause) (h : Head) (s : State) :
    (s.haltIfActive cause h).settled = s.settled := by
  unfold State.haltIfActive
  split <;> simp

@[simp] theorem State.abortJob_settled (cause : StopCause) (s : State) : (s.abortJob cause).settled = s.settled := by
  unfold State.abortJob
  split
  · rename_i hlive
    have hhalt := forHeads_settled (State.haltIfActive cause) (fun h s => s.haltIfActive_settled cause h)
      { s with job := { s.job with state := .aborted, result := none, abortCause := some cause } }
    have hjob : State.settled
        { s with job := { s.job with state := .aborted, result := none, abortCause := some cause } } = s.settled := by
      simp [State.settled, State.standing, State.wears, ne_setup_of_live hlive]
    dsimp only
    rw [State.post_settled, State.postAll_settled]
    exact hhalt.trans hjob
  · rfl

@[simp] theorem State.abortIfCutting_settled (cause : StopCause) (s : State) :
    (s.abortIfCutting cause).settled = s.settled := by
  unfold State.abortIfCutting
  split <;> simp

/-! ## Calibrations and stylus faults -/

@[simp] theorem State.endCal_settled (h : Head) (s : State) : (s.endCal h).settled = s.settled := by
  simp [State.endCal]

@[simp] theorem State.failCal_settled (h : Head) (c : CalCause) (d : CalDetail) (s : State) :
    (s.failCal h c d).settled = s.settled := by
  simp [State.failCal]

@[simp] theorem State.failAllCals_settled (c : CalCause) (s : State) : (s.failAllCals c).settled = s.settled :=
  forHeads_settled _ (fun h s => by split <;> simp) s

@[simp] theorem State.raiseFault_settled (h : Head) (f : StylusFault) (n : Nat) (t : BitVec 8) (v : Option Nat)
    (s : State) : (s.raiseFault h f n t v).settled = s.settled := by
  simp [State.raiseFault]

@[simp] theorem State.actFault_settled (h : Head) (f : StylusFault) (a : FaultAction) (s : State) :
    (s.actFault h f a).settled = s.settled := by
  cases a <;> simp [State.actFault]

@[simp] theorem State.runFit_settled (h : Head) (u : CalSetup) (low high : Nat) (s : State) :
    (s.runFit h u low high).settled = s.settled := by
  unfold State.runFit State.propose
  split <;> simp

@[simp] theorem State.measured_settled (h : Head) (u : CalSetup) (level width : Nat) (s : State) :
    (s.measured h u level width).settled = s.settled := by
  unfold State.measured
  dsimp only
  split <;> simp

@[simp] theorem State.beginCal_settled (h : Head) (u : CalSetup) (s : State) :
    (s.beginCal h u).settled = s.settled := by
  simp [State.beginCal]

@[simp] theorem State.measurementExpiry_settled (h : Head) (s : State) :
    (s.measurementExpiry h).settled = s.settled := by
  unfold State.measurementExpiry
  split <;> simp

/-! ## Sheds -/

@[simp] theorem State.shedHead_settled (o : ShedOccasion) (b n : Nat) (x : Shed) (s : State) :
    (s.shedHead o b n x).settled = s.settled := by
  simp [State.shedHead]

@[simp] theorem State.shedAll_settled (o : ShedOccasion) (b n : Nat) (xs : List Shed) (s : State) :
    (s.shedAll o b n xs).settled = s.settled :=
  forHeads_settled _ (fun h s => by split <;> simp) s

@[simp] theorem State.changeBank_settled (b : BitVec 3) (s : State) : (s.changeBank b).settled = s.settled :=
  (State.shedAll_settled _ _ _ _ _).trans (State.post_settled _ _)

/-! ## The revolution boundary -/

@[simp] theorem State.noteSlip_settled (t : TimingSettings) (x : Int) (s : State) :
    (s.noteSlip t x).settled = s.settled := by
  unfold State.noteSlip
  dsimp only
  split <;> split <;> rfl

@[simp] theorem State.noteSpeed_settled (t : TimingSettings) (s : State) : (s.noteSpeed t).settled = s.settled := by
  unfold State.noteSpeed
  dsimp only
  split <;> rfl

@[simp] theorem State.measurePeriod_settled (t : TimingSettings) (time : Nat) (s : State) :
    (s.measurePeriod t time).settled = s.settled := by
  unfold State.measurePeriod
  split
  · exact State.noteSpeed_settled t _
  · rfl

@[simp] theorem State.startCut_settled (h : Head) (u : CalSetup) (s : State) :
    (s.startCut h u).settled = s.settled := by
  unfold State.startCut
  rw [State.updMonitor_settled, State.updChannel_settled _ _ _ rfl rfl, State.updCal_settled]

@[simp] theorem State.calBoundary_settled (h : Head) (s : State) : (s.calBoundary h).settled = s.settled := by
  unfold State.calBoundary
  split
  · rfl
  · simp
  · unfold State.endCut
    split <;> simp
  · rfl

@[simp] theorem State.retireTrack_settled (h : Head) (r : TrackRecord) (s : State) :
    (s.retireTrack h r).settled = s.settled := by
  unfold State.retireTrack
  dsimp only
  split
  · split <;> simp
  · simp

@[simp] theorem State.finishHead_settled (h : Head) (s : State) : (s.finishHead h).settled = s.settled := by
  simp [State.finishHead]

@[simp] theorem State.retireHead_settled (h : Head) (s : State) : (s.retireHead h).settled = s.settled := by
  unfold State.retireHead
  dsimp only
  repeat' split
  all_goals simp

@[simp] theorem State.stopHead_settled (h : Head) (s : State) : (s.stopHead h).settled = s.settled := by
  unfold State.stopHead
  split <;> simp

@[simp] theorem State.startTrack_settled (h : Head) (n : Nat) (s : State) : (s.startTrack h n).settled = s.settled := by
  unfold State.startTrack
  split
  · exact congrArg (Prod.mk s.standing) (wears_set s.channels h _ rfl rfl)
  · rfl

@[simp] theorem State.startAll_settled (d : Head → Nat) (s : State) : (s.startAll d).settled = s.settled :=
  forHeads_settled _ (fun h s => by split <;> simp) s

@[simp] theorem State.go_settled (s : State) : s.go.settled = s.settled := by
  have hstarted : ∀ u : State, State.settled
      { u with ctu := { u.ctu with feedEn := u.anyCutting, holdCount := 0 } } = u.settled := fun _ => rfl
  unfold State.go
  dsimp only
  rw [hstarted, State.startAll_settled, State.shedAll_settled]

@[simp] theorem State.waitHead_settled (h : Head) (s : State) : (s.waitHead h).settled = s.settled := by
  unfold State.waitHead
  split <;> simp

@[simp] theorem State.hold_settled (s : State) : s.hold.settled = s.settled := by
  have hwait := (forHeads_settled State.waitHead (fun h s => s.waitHead_settled h) _).trans
    (State.settled_congr (s := s) (t := { s with ctu := { s.ctu with feedEn := false } }) rfl rfl rfl rfl)
  have hcounted : ∀ (u : State) (count total : Nat), State.settled
      { u with ctu := { u.ctu with holdCount := count }, rpt := { u.rpt with holdTotal := total } } = u.settled :=
    fun _ _ _ => rfl
  unfold State.hold
  dsimp only
  split
  · rw [State.abortJob_settled, hcounted, State.post_settled, hwait]
  · rw [hcounted, State.post_settled, hwait]

@[simp] theorem State.decideRevolution_settled (s : State) : s.decideRevolution.settled = s.settled := by
  unfold State.decideRevolution
  split
  · split <;> simp
  · rfl

@[simp] theorem State.boundaryBlocks_settled (b : Bool) (s : State) : (s.boundaryBlocks b).settled = s.settled := by
  unfold State.boundaryBlocks
  rw [forHeads_settled _ (fun h s => s.stopHead_settled h), forHeads_settled _ (fun h s => s.retireHead_settled h)]
  split
  · simp
  · exact forHeads_settled _ (fun h s => s.calBoundary_settled h) s

@[simp] theorem State.boundary_settled (t : TimingSettings) (time : Nat) (x : Option Int) (s : State) :
    (s.boundary t time x).settled = s.settled := by
  have hblocks : ∀ (b : Bool) (n : State),
      ((State.measurePeriod t time { n with ctu := { n.ctu with aligned := true } }).boundaryBlocks b).settled =
        n.settled := fun b n => by
    rw [State.boundaryBlocks_settled, State.measurePeriod_settled]
    rfl
  unfold State.boundary
  cases x with
  | none =>
    dsimp only
    split
    · rw [State.abortJob_settled, hblocks]
    · rw [State.decideRevolution_settled, hblocks]
  | some x =>
    dsimp only
    split
    · rw [State.abortJob_settled, hblocks, State.noteSlip_settled]
    · rw [State.decideRevolution_settled, hblocks, State.noteSlip_settled]

/-! ## Forward counts: everything but the wear -/

/-- What leaves the standing settings and the wear leaves the standing settings. -/
theorem State.standing_of_settled {s t : State} (h : t.settled = s.settled) : t.standing = s.standing :=
  congrArg Prod.fst h

@[simp] theorem State.enterStroke_standing (h : Head) (w : Nat) (closed : Bool) (s : State) :
    (s.enterStroke h w closed).standing = s.standing := by
  refine State.standing_of_settled ?_
  unfold State.enterStroke
  dsimp only
  split
  · split <;> simp
  · simp

@[simp] theorem State.emit_standing (h : Head) (k : Stroke) (s : State) : (s.emit h k).standing = s.standing := by
  simp [State.emit]

@[simp] theorem State.countHead_standing (a : Nat) (h : Head) (s : State) :
    (s.countHead a h).standing = s.standing := by
  unfold State.countHead
  split
  · rfl
  · unfold State.trackCount
    dsimp only
    split
    · split
      · rfl
      · exact State.emit_standing h _ _
    · rfl
  · unfold State.testCount
    dsimp only
    split
    · split
      · rfl
      · exact State.emit_standing h _ _
    · rfl

@[simp] theorem State.actLost_standing (h : Head) (a : FaultAction) (s : State) :
    (s.actLost h a).standing = s.standing :=
  State.standing_of_settled (s.actFault_settled h _ a)

@[simp] theorem State.countThenAct_standing (a : Nat) (h : Head) (s : State) :
    (s.countThenAct a h).standing = s.standing := by
  unfold State.countThenAct
  split <;> simp

@[simp] theorem State.countThenPark_standing (a : Nat) (h : Head) (s : State) :
    (s.countThenPark a h).standing = s.standing := by
  unfold State.countThenPark
  split <;> simp

@[simp] theorem State.countAll_standing (a : Nat) (s : State) : (s.countAll a).standing = s.standing := by
  have hact := forHeads_view State.standing (State.countThenAct a) (fun h s => s.countThenAct_standing a h)
  have hpark := forHeads_view State.standing (State.countThenPark a) (fun h s => s.countThenPark_standing a h)
  have habort := forHeads_view State.standing
    (fun h (t : State) => if s.countAborts h then t.actLost h .aborted else t) (fun h t => by split <;> simp)
  unfold State.countAll
  dsimp only
  split
  · split
    · exact hact _
    · exact (habort _).trans (hpark _)
  · exact hact s

theorem State.forwardCount_standing (time : Nat) (s : State) : (s.forwardCount time).standing = s.standing := by
  have hboundary : ∀ (t : TimingSettings) (x : Option Int) (n : State),
      (n.boundary t time x).standing = n.standing := fun t x n =>
    State.standing_of_settled (n.boundary_settled t time x)
  unfold State.forwardCount
  split
  · rfl
  · rename_i t _
    split
    · exact State.countAll_standing _ _
    · unfold State.countCount
      split
      · exact hboundary t _ _
      · exact State.countAll_standing _ _
    · unfold State.autoStep
      split
      · exact hboundary t _ _
      · exact State.countAll_standing _ _

/-! ## Index pulses, reverse counts, stalls, lines and samples -/

theorem State.indexPulse_settled (time : Nat) (s : State) : (s.indexPulse time).settled = s.settled := by
  unfold State.indexPulse
  split
  · rfl
  · rename_i t _
    split
    · exact State.boundary_settled t time _ _
    · rfl
    · exact State.boundary_settled t time _ _

theorem State.reverseCount_settled (s : State) : s.reverseCount.settled = s.settled := by
  unfold State.reverseCount
  split
  · rfl
  · rw [State.failAllCals_settled, State.abortIfCutting_settled]
    rfl

theorem State.stallExpiry_settled (s : State) : s.stallExpiry.settled = s.settled := by
  unfold State.stallExpiry
  split
  · rfl
  · split
    · rw [State.failAllCals_settled, State.abortIfCutting_settled]
      rfl
    · rfl

@[simp] theorem State.actFeedFault_settled (s : State) : s.actFeedFault.settled = s.settled := by
  unfold State.actFeedFault
  split <;> simp

theorem State.estopChange_settled (l : Bool) (s : State) : (s.estopChange l).settled = s.settled := by
  unfold State.estopChange
  split <;> simp

/-- An accepted START leaves a job that is outside SETUP there. -/
theorem State.startJob_settled (s : State) (hs : (s.job.state == .setup) = false) :
    s.startJob.settled = s.settled :=
  (State.actFeedFault_settled _).trans (State.enterJob_settled _ _ _ _ hs rfl)

theorem State.classified_settled (h : Head) (p : MonitorParams) (e : HistoryEntry) (v : Nat) (s : State) :
    (s.classified h p e v).settled = s.settled := by
  unfold State.classified
  dsimp only
  split <;> split <;> simp

theorem State.sample_settled (h : Head) (v : Nat) (t : BitVec 8) (s : State) :
    (s.sample h v t).settled = s.settled := by
  unfold State.sample
  dsimp only
  split
  · simp
  · split
    · simp
    · split
      · exact State.classified_settled h _ _ v _
      · rfl

theorem State.trackPart_settled (b : Byte) (p : List Byte) (s : State) : (s.trackPart b p).settled = s.settled := by
  unfold State.trackPart
  split
  · rfl
  · split
    · rfl
    · rfl

theorem State.intervalExpiry_settled (s : State) : s.intervalExpiry.settled = s.settled := by
  unfold State.intervalExpiry
  split <;> rfl

theorem State.tableFrame_settled (p : List Byte) (f : Nat → Nat → List Entry → Store → StoreAnswer) (s : State) :
    (s.tableFrame p f).settled = s.settled := rfl

theorem State.commitDone_settled (s : State) : s.commitDone.settled = s.settled := by
  unfold State.commitDone
  split <;> rfl

end Sys2Proof.Machine
end

section
/-! Which rows change the tables, the settings and the lines (O60). -/

namespace Sys2Proof.Machine

open Sys2Proof.Claims

/-! ## What a row may touch -/

/-- The rows by what they may touch of the tables, the settings and the lines. -/
inductive RowClass where
  /-- Touches none of them. -/
  | quiet
  /-- JOB DEFINE, TIMING SET, NOTICE MASK, STYLUS WEAR. -/
  | setting
  /-- The frames, commands and completion of the Table Store, and CAL APPLY. -/
  | table
  /-- The rows that bind and unbind the slots of a job, and the soft reset. -/
  | job
  /-- A forward count, which advances the wear. -/
  | count
  /-- A row of a dedicated line that clears nothing. -/
  | line
  /-- A row that starts a full reset. -/
  | full
  /-- A byte of the feed link, which may end a frame of another row. -/
  | feed

/-- The class of a row. -/
def rowClass : Instr → RowClass
  | .jobDefine .. | .timingSet .. | .noticeMask .. | .stylusWear .. => .setting
  | .tableDataOpen _ | .tableData _ | .tableDiscard .. | .tableCommit .. | .tableErase .. | .tableReadStart ..
  | .tableReadContinue .. | .calApply .. | .commitCompletion => .table
  | .arm .. | .disarm .. | .release .. | .reset .. => .job
  | .forwardCount _ => .count
  | .estop _ | .feedFault _ | .bankChange _ | .resetNRelease | .powerOnRelease => .line
  | .resetNAssert | .powerOn | .supplyFall => .full
  | .feedByte _ => .feed
  | _ => .quiet

/-- The classes of the rows that may change the Table Store. -/
def RowClass.changesTables : RowClass → Bool
  | .table | .job | .full | .feed => true
  | .quiet | .setting | .count | .line => false

/-- The classes of the rows that may change the job record, the settings, the mask or the wear. -/
def RowClass.changesSettings : RowClass → Bool
  | .setting | .count | .full | .feed => true
  | .quiet | .table | .job | .line => false

/-- The classes of the rows of the dedicated lines and the supplies. -/
def RowClass.changesLines : RowClass → Bool
  | .line | .full => true
  | .quiet | .setting | .table | .job | .count | .feed => false

/-- The classes of the rows that are frames. -/
def RowClass.isFrame : RowClass → Bool
  | .quiet | .setting | .table | .job => true
  | .count | .line | .full | .feed => false

theorem mayChangeTables_eq (c : Instr) : mayChangeTables c = (rowClass c).changesTables := by
  cases c <;> rfl

theorem mayChangeSettings_eq (c : Instr) : mayChangeSettings c = (rowClass c).changesSettings := by
  cases c <;> rfl

theorem movesLine_eq (c : Instr) : movesLine c = (rowClass c).changesLines := by
  cases c <;> rfl

/-! ## What an event and a command keep -/

/-- What an event keeps: what its effect and the return arbiter keep. -/
theorem serve_keeps (P : State → Prop) (hP : ∀ u, P u → P u.arbitrate) {f : State → State} {s t : State}
    (hs : P s) (hf : P (f s)) (h : serve f s = .next t) : P t := by
  unfold serve at h
  split at h
  · cases h
    exact hs
  · cases h
    exact hP _ hf

/-- What a command keeps: what its own block keeps where the command is available, and the reply keeps. -/
theorem command_keeps (P : State → Prop) (hP : ∀ f u, P u → P (State.queueReply f u).arbitrate) {c : CommandName}
    {tag : Half} {p : List Byte} {body : State → Answer} {s t : State} (hs : P s)
    (hb : commandAvailable c s.job.state = true → P (body s).1) (h : command c tag p body s = .next t) : P t := by
  unfold command serve at h
  split at h
  · cases h
    exact hs
  · cases h
    refine hP _ _ ?_
    unfold judge
    split
    · exact hs
    split
    · exact hb ‹_›
    · exact hs

/-! ## Quiet rows -/

/-- The tables, the lines, the standing settings and the wear are as they were. -/
structure Quiet (s t : State) : Prop where
  store : t.store = s.store
  lines : t.lines = s.lines
  settled : t.settled = s.settled

theorem Quiet.refl (s : State) : Quiet s s := ⟨rfl, rfl, rfl⟩

theorem serve_quiet {f : State → State} {s t : State} (hf : Quiet s (f s)) (h : serve f s = .next t) :
    Quiet s t :=
  serve_keeps (Quiet s) (fun _ hu => ⟨hu.store, hu.lines, hu.settled⟩) (.refl s) hf h

theorem command_quiet {c : CommandName} {tag : Half} {p : List Byte} {body : State → Answer} {s t : State}
    (hb : commandAvailable c s.job.state = true → Quiet s (body s).1) (h : command c tag p body s = .next t) :
    Quiet s t :=
  command_keeps (Quiet s) (fun _ _ hu => ⟨hu.store, hu.lines, hu.settled⟩) (.refl s) hb h

/-- START and STOP are not available in SETUP. -/
theorem ne_setup_of_available {c : CommandName} {j : JobState} (hc : c = .start ∨ c = .stop)
    (ha : commandAvailable c j = true) : (j == .setup) = false := by
  rcases hc with rfl | rfl
  · rw [beq_iff_eq.mp ha]
    rfl
  · rw [beq_iff_eq.mp ha]
    rfl

theorem start_quiet (s : State) (hs : (s.job.state == .setup) = false) : Quiet s (start s).1 := by
  unfold start
  split
  · exact .refl s
  split
  · exact .refl s
  · exact ⟨by simp, by simp, s.startJob_settled hs⟩

theorem headPark_quiet (p : List Byte) (s : State) : Quiet s (headPark p s).1 := by
  unfold headPark
  split
  · exact .refl s
  split
  · exact ⟨by simp, by simp, by simp⟩
  · exact .refl s

theorem trackDiscard_quiet (p : List Byte) (s : State) : Quiet s (trackDiscard p s).1 := by
  unfold trackDiscard
  split
  · exact .refl s
  split
  · exact .refl s
  · exact ⟨rfl, rfl, rfl⟩

theorem calibrate_quiet (p : List Byte) (s : State) : Quiet s (calibrate p s).1 := by
  unfold calibrate
  split
  · exact .refl s
  · exact .refl s
  · split
    · exact .refl s
    · exact ⟨rfl, rfl, by simp⟩

theorem calMeasure_quiet (p : List Byte) (s : State) : Quiet s (calMeasure p s).1 := by
  unfold calMeasure
  split
  · exact .refl s
  split
  · exact .refl s
  split
  · exact .refl s
  · exact .refl s
  · exact .refl s
  · unfold measureLevel
    dsimp only
    split
    · exact .refl s
    split
    · exact .refl s
    · exact ⟨by simp, by simp, by simp⟩

theorem calCancel_quiet (p : List Byte) (s : State) : Quiet s (calCancel p s).1 := by
  unfold calCancel
  split
  · exact .refl s
  split
  · exact ⟨by simp, by simp, by simp⟩
  · exact .refl s

theorem noticeSkip_quiet (p : List Byte) (s : State) : Quiet s (noticeSkip p s).1 := by
  unfold noticeSkip
  split
  · exact .refl s
  · exact ⟨rfl, rfl, rfl⟩

theorem countersRead_quiet (p : List Byte) (s : State) : Quiet s (countersRead p s).1 := by
  rw [countersRead_same]
  exact .refl s

theorem countersClear_quiet (p : List Byte) (s : State) : Quiet s (countersClear p s).1 := by
  unfold countersClear
  split
  · exact .refl s
  · exact ⟨rfl, rfl, rfl⟩

/-- The rows that touch none of the tables, the settings and the lines. -/
theorem exec_quiet (c : Instr) (hc : rowClass c = .quiet) (s t : State) (h : exec c s = .next t) : Quiet s t := by
  cases c with
  | identify tag p => exact command_quiet (fun _ => .refl s) h
  | statusSnapshot tag p => exact command_quiet (fun _ => ⟨rfl, rfl, rfl⟩) h
  | start tag p => exact command_quiet (fun ha => start_quiet s (ne_setup_of_available (Or.inl rfl) ha)) h
  | stop tag p =>
    exact command_quiet (fun ha =>
      ⟨rfl, rfl, s.enterJob_settled _ _ _ (ne_setup_of_available (Or.inr rfl) ha) rfl⟩) h
  | abort tag p => exact command_quiet (fun _ => ⟨by simp [abort], by simp [abort], by simp [abort]⟩) h
  | headPark tag p => exact command_quiet (fun _ => headPark_quiet p s) h
  | trackDiscard tag p => exact command_quiet (fun _ => trackDiscard_quiet p s) h
  | calibrate tag p => exact command_quiet (fun _ => calibrate_quiet p s) h
  | calMeasure tag p => exact command_quiet (fun _ => calMeasure_quiet p s) h
  | calCancel tag p => exact command_quiet (fun _ => calCancel_quiet p s) h
  | noticeSkip tag p => exact command_quiet (fun _ => noticeSkip_quiet p s) h
  | countersRead tag p => exact command_quiet (fun _ => countersRead_quiet p s) h
  | countersClear tag p => exact command_quiet (fun _ => countersClear_quiet p s) h
  | unknownCommand code tag => exact serve_quiet ⟨rfl, rfl, rfl⟩ h
  | shortCommandPayload p => exact serve_quiet ⟨rfl, rfl, rfl⟩ h
  | trackPart b p => exact serve_quiet ⟨by simp, by simp, s.trackPart_settled b p⟩ h
  | kindError kind => exact serve_quiet ⟨rfl, rfl, by simp⟩ h
  | byteIntervalTimeout => exact serve_quiet ⟨by simp, by simp, s.intervalExpiry_settled⟩ h
  | returnFrameSent => exact serve_quiet ⟨rfl, rfl, rfl⟩ h
  | reverseCount => exact serve_quiet ⟨by simp, by simp, s.reverseCount_settled⟩ h
  | indexPulse time => exact serve_quiet ⟨by simp, by simp, s.indexPulse_settled time⟩ h
  | stall => exact serve_quiet ⟨by simp, by simp, s.stallExpiry_settled⟩ h
  | measurementTimeout head => exact serve_quiet ⟨by simp, by simp, by simp⟩ h
  | monitorSample head value tag => exact serve_quiet ⟨by simp, by simp, s.sample_settled head _ tag⟩ h
  | _ => cases hc

/-! ## Setting rows -/

/-- The tables, the lines and the job state are as they were; the job record too, outside SETUP. -/
structure SettingOnly (s t : State) : Prop where
  store : t.store = s.store
  lines : t.lines = s.lines
  state : t.job.state = s.job.state
  record : s.job.state ≠ .setup → t.job.record = s.job.record

theorem SettingOnly.refl (s : State) : SettingOnly s s := ⟨rfl, rfl, rfl, fun _ => rfl⟩

theorem command_setting {c : CommandName} {tag : Half} {p : List Byte} {body : State → Answer} {s t : State}
    (hb : commandAvailable c s.job.state = true → SettingOnly s (body s).1)
    (h : command c tag p body s = .next t) : SettingOnly s t :=
  command_keeps (SettingOnly s) (fun _ _ hu => ⟨hu.store, hu.lines, hu.state, hu.record⟩) (.refl s) hb h

theorem timingSet_setting (p : List Byte) (s : State) : SettingOnly s (timingSet p s).1 := by
  unfold timingSet
  split
  · exact .refl s
  split
  · exact .refl s
  · exact ⟨rfl, rfl, rfl, fun _ => rfl⟩

theorem jobDefine_setting (p : List Byte) (s : State) (hs : s.job.state = .setup) :
    SettingOnly s (jobDefine p s).1 := by
  unfold jobDefine
  split
  · exact .refl s
  · exact ⟨rfl, rfl, rfl, fun hne => absurd hs hne⟩

theorem noticeMask_setting (p : List Byte) (s : State) : SettingOnly s (noticeMask p s).1 := by
  unfold noticeMask
  split
  · exact .refl s
  · exact ⟨rfl, rfl, rfl, fun _ => rfl⟩

theorem stylusWear_setting (p : List Byte) (s : State) : SettingOnly s (stylusWear p s).1 := by
  unfold stylusWear
  split
  · exact .refl s
  split
  · exact .refl s
  · exact ⟨rfl, rfl, rfl, fun _ => rfl⟩

theorem exec_setting (c : Instr) (hc : rowClass c = .setting) (s t : State) (h : exec c s = .next t) :
    SettingOnly s t := by
  cases c with
  | timingSet tag p => exact command_setting (fun _ => timingSet_setting p s) h
  | jobDefine tag p => exact command_setting (c := .jobDefine) (fun ha => jobDefine_setting p s (beq_iff_eq.mp ha)) h
  | noticeMask tag p => exact command_setting (fun _ => noticeMask_setting p s) h
  | stylusWear tag p => exact command_setting (fun _ => stylusWear_setting p s) h
  | _ => cases hc

/-! ## Table rows -/

/-- The lines, the standing settings and the wear are as they were, and no slot becomes BOUND or leaves BOUND. -/
structure TableOnly (s t : State) : Prop where
  lines : t.lines = s.lines
  settled : t.settled = s.settled
  bound : s.store.Wf → ∀ i, (t.store.slot i).state = .bound ↔ (s.store.slot i).state = .bound

theorem TableOnly.refl (s : State) : TableOnly s s := ⟨rfl, rfl, fun _ _ => Iff.rfl⟩

/-- A slot that is not BOUND replaced by one that is not. -/
theorem Store.setSlot_bound (t : Store) (i : Nat) (v : Slot) (hold : (t.slot i).state ≠ .bound)
    (hnew : v.state ≠ .bound) (j : Nat) :
    ((t.setSlot i v).slot j).state = .bound ↔ (t.slot j).state = .bound := by
  rw [Store.slot_setSlot]
  split
  · rename_i hij
    rw [← hij.1]
    exact iff_of_false hnew hold
  · exact Iff.rfl

theorem serve_table {f : State → State} {s t : State} (hf : TableOnly s (f s)) (h : serve f s = .next t) :
    TableOnly s t :=
  serve_keeps (TableOnly s) (fun _ hu => ⟨hu.lines, hu.settled, hu.bound⟩) (.refl s) hf h

theorem command_table {c : CommandName} {tag : Half} {p : List Byte} {body : State → Answer} {s t : State}
    (hb : TableOnly s (body s).1) (h : command c tag p body s = .next t) : TableOnly s t :=
  command_keeps (TableOnly s) (fun _ _ hu => ⟨hu.lines, hu.settled, hu.bound⟩) (.refl s) (fun _ => hb) h

theorem Store.staged_slot (i : Nat) (w : WriteResult) (t : Store) (j : Nat) :
    (t.staged i w).1.slot j = t.slot j := by
  cases w <;> rfl

theorem Store.openData_slot (slot offset : Nat) (entries : List Entry) (t : Store) (j : Nat) :
    (t.openData slot offset entries).1.slot j = t.slot j := by
  rcases t.openData_cases slot offset entries with h | ⟨-, -, h⟩
  · rw [h]
  · rw [h, Store.staged_slot]

theorem Store.appendData_slot (slot offset : Nat) (entries : List Entry) (t : Store) (j : Nat) :
    (t.appendData slot offset entries).1.slot j = t.slot j := by
  rcases t.appendData_cases slot offset entries with h | ⟨-, -, -, h⟩
  · rw [h]
  · rw [h, Store.staged_slot]

theorem State.tableFrame_table (p : List Byte) (f : Nat → Nat → List Entry → Store → StoreAnswer) (s : State)
    (hf : ∀ slot offset entries j, (f slot offset entries s.store).1.slot j = s.store.slot j) :
    TableOnly s (s.tableFrame p f) := by
  refine ⟨rfl, rfl, fun _ j => ?_⟩
  unfold State.tableFrame
  dsimp only
  rw [State.queueReply_store]
  split
  · rw [hf]
  · exact Iff.rfl

theorem tableCommit_table (p : List Byte) (s : State) : TableOnly s (tableCommit p s).1 := by
  rcases tableCommit_cases p s with h | ⟨i, -, hb, -, -, h⟩
  · rw [h]
    exact .refl s
  · rw [h]
    exact ⟨rfl, rfl, fun _ => s.store.setSlot_bound i _ hb SlotState.noConfusion⟩

theorem State.commitDone_table (s : State) : TableOnly s s.commitDone := by
  refine ⟨by simp, s.commitDone_settled, fun ht => ?_⟩
  unfold State.commitDone
  split
  · rename_i i hc
    refine s.store.setSlot_bound i _ ?_ SlotState.noConfusion
    rw [(ht.committing i).mpr hc]
    exact SlotState.noConfusion
  · exact fun _ => Iff.rfl

theorem tableErase_table (p : List Byte) (s : State) : TableOnly s (tableErase p s).1 := by
  rcases tableErase_cases p s with h | ⟨i, hv, h⟩
  · rw [h]
    exact .refl s
  · rw [h]
    exact ⟨rfl, rfl, fun _ => s.store.setSlot_bound i _ (by simp [hv]) SlotState.noConfusion⟩

theorem tableDiscard_table (s : State) : TableOnly s (tableDiscard s).1 := by
  unfold tableDiscard
  split
  · exact .refl s
  · exact ⟨rfl, rfl, fun _ _ => Iff.rfl⟩

theorem tableReadStart_table (p : List Byte) (s : State) : TableOnly s (tableReadStart p s).1 := by
  unfold tableReadStart
  dsimp only
  repeat' split
  all_goals exact ⟨rfl, rfl, fun _ _ => Iff.rfl⟩

theorem tableReadContinue_table (s : State) : TableOnly s (tableReadContinue s).1 := by
  unfold tableReadContinue
  split <;> exact ⟨rfl, rfl, fun _ _ => Iff.rfl⟩

theorem calApply_table (p : List Byte) (s : State) : TableOnly s (calApply p s).1 := by
  rcases calApply_cases p s with h | ⟨h, v, -, hs, he⟩
  · rw [h]
    exact .refl s
  · rw [he]
    exact ⟨rfl, rfl, fun _ => s.store.setSlot_bound _ _ (by simp [hs]) SlotState.noConfusion⟩

theorem exec_table (c : Instr) (hc : rowClass c = .table) (s t : State) (h : exec c s = .next t) :
    TableOnly s t := by
  cases c with
  | tableDataOpen p =>
    exact serve_table (s.tableFrame_table p _ (fun _ _ _ j => Store.openData_slot _ _ _ _ j)) h
  | tableData p =>
    exact serve_table (s.tableFrame_table p _ (fun _ _ _ j => Store.appendData_slot _ _ _ _ j)) h
  | tableDiscard tag p => exact command_table (tableDiscard_table s) h
  | tableCommit tag p => exact command_table (tableCommit_table p s) h
  | tableErase tag p => exact command_table (tableErase_table p s) h
  | tableReadStart tag p => exact command_table (tableReadStart_table p s) h
  | tableReadContinue tag p => exact command_table (tableReadContinue_table s) h
  | calApply tag p => exact command_table (calApply_table p s) h
  | commitCompletion => exact serve_table s.commitDone_table h
  | _ => cases hc

/-! ## Job rows -/

/-- The lines, the settings and the wear are as they were. -/
structure JobOnly (s t : State) : Prop where
  lines : t.lines = s.lines
  record : t.job.record = s.job.record
  timing : t.ctu.settings = s.ctu.settings
  mask : t.rpt.mask = s.rpt.mask
  wears : t.wears = s.wears

theorem JobOnly.refl (s : State) : JobOnly s s := ⟨rfl, rfl, rfl, rfl, rfl⟩

theorem command_job {c : CommandName} {tag : Half} {p : List Byte} {body : State → Answer} {s t : State}
    (hb : JobOnly s (body s).1) (h : command c tag p body s = .next t) : JobOnly s t :=
  command_keeps (JobOnly s) (fun _ _ hu => ⟨hu.lines, hu.record, hu.timing, hu.mask, hu.wears⟩) (.refl s)
    (fun _ => hb) h

/-- A change of every channel that keeps its wear leaves the wear of the heads. -/
theorem wears_mapIdx (p : PerHead Channel) (f : Head → Channel → Channel)
    (hf : ∀ h c, (f h c).wear = c.wear ∧ (f h c).wearSub = c.wearSub) :
    (p.mapIdx f).mapIdx (fun _ c => (c.wear, c.wearSub)) = p.mapIdx (fun _ c => (c.wear, c.wearSub)) := by
  refine PerHead.ext_get _ _ (fun h => ?_)
  simp only [PerHead.get_mapIdx, (hf h _).1, (hf h _).2]

theorem armedChannel_wear (r : JobRecord) (h : Head) (c : Channel) :
    (armedChannel r h c).wear = c.wear ∧ (armedChannel r h c).wearSub = c.wearSub := by
  unfold armedChannel
  split <;> exact ⟨rfl, rfl⟩

theorem offIf_wear (leaves : ChannelState → Bool) (c : Channel) :
    (offIf leaves c).wear = c.wear ∧ (offIf leaves c).wearSub = c.wearSub := by
  unfold offIf
  split <;> exact ⟨rfl, rfl⟩

theorem armRow_job (s : State) : JobOnly s (arm s).1 := by
  unfold arm
  split
  · exact .refl s
  split
  · exact .refl s
  · exact ⟨rfl, rfl, rfl, rfl, wears_mapIdx s.channels _ (armedChannel_wear _)⟩

/-- Events posted leave the settings and the wear. -/
theorem JobOnly.posted {s u : State} (hu : JobOnly s u) (es : List Event) (e : Event) :
    JobOnly s ((u.postAll es).post e) where
  lines := by simpa using hu.lines
  record := by simpa using hu.record
  timing := by simpa using hu.timing
  mask := (congrArg (fun v => v.1.mask) (u.postAll_settled es)).trans hu.mask
  wears := (congrArg Prod.snd (u.postAll_settled es)).trans hu.wears

theorem disarm_job (s : State) : JobOnly s (disarm s).1 :=
  JobOnly.posted (s := s) (u := s.freeHeads notOff)
    ⟨rfl, rfl, rfl, rfl, wears_mapIdx s.channels _ (fun _ => offIf_wear notOff)⟩ _ _

theorem release_job (s : State) : JobOnly s (release s).1 :=
  JobOnly.posted (s := s)
    (u := { s.freeHeads departed with monitors := s.monitors.mapIdx (fun _ m => { m with history := [] }) })
    ⟨rfl, rfl, rfl, rfl, wears_mapIdx s.channels _ (fun _ => offIf_wear departed)⟩ _ _

theorem softReset_job (s : State) : JobOnly s (softReset s).1 :=
  ⟨rfl, rfl, rfl, rfl, wears_mapIdx s.channels _ (fun _ _ => ⟨rfl, rfl⟩)⟩

theorem exec_job (c : Instr) (hc : rowClass c = .job) (s t : State) (h : exec c s = .next t) : JobOnly s t := by
  cases c with
  | arm tag p => exact command_job (armRow_job s) h
  | disarm tag p => exact command_job (disarm_job s) h
  | release tag p => exact command_job (release_job s) h
  | reset tag p => exact command_job (softReset_job s) h
  | _ => cases hc

/-! ## Forward counts and lines -/

theorem exec_count (c : Instr) (hc : rowClass c = .count) (s t : State) (h : exec c s = .next t) :
    t.store = s.store ∧ t.lines = s.lines ∧ t.standing = s.standing := by
  cases c with
  | forwardCount time =>
    refine serve_keeps (fun u => u.store = s.store ∧ u.lines = s.lines ∧ u.standing = s.standing)
      (fun _ hu => hu) ⟨rfl, rfl, rfl⟩ ⟨by simp, by simp, s.forwardCount_standing time⟩ h
  | _ => cases hc

/-- The tables, the standing settings and the wear are as they were. -/
structure LineOnly (s t : State) : Prop where
  store : t.store = s.store
  settled : t.settled = s.settled

theorem LineOnly.refl (s : State) : LineOnly s s := ⟨rfl, rfl⟩

theorem LineOnly.trans {s u t : State} (hu : LineOnly s u) (ht : LineOnly u t) : LineOnly s t :=
  ⟨ht.store.trans hu.store, ht.settled.trans hu.settled⟩

theorem serve_line {f : State → State} {s u t : State} (h : serve f u = .next t) (hu : LineOnly s u)
    (hf : LineOnly u (f u)) : LineOnly s t :=
  serve_keeps (LineOnly s) (fun _ hu => ⟨hu.store, hu.settled⟩) hu (hu.trans hf) h

theorem State.leaveHeld_line (s : State) : LineOnly s s.leaveHeld := by
  unfold State.leaveHeld
  split
  · exact .refl s
  · exact ⟨rfl, rfl⟩

theorem exec_line (c : Instr) (hc : rowClass c = .line) (s t : State) (h : exec c s = .next t) : LineOnly s t := by
  cases c with
  | estop level =>
    replace h : execEstop level s = .next t := h
    unfold execEstop at h
    split at h
    · cases h
      exact ⟨rfl, rfl⟩
    split at h
    · cases h
      exact .refl s
    · exact serve_line h ⟨rfl, rfl⟩ ⟨by simp, State.estopChange_settled level _⟩
  | feedFault level =>
    exact serve_line (u := { s with lines := { s.lines with feedFault := level } }) h ⟨rfl, rfl⟩
      ⟨by simp, State.actFeedFault_settled _⟩
  | bankChange bank =>
    replace h : execBankChange bank s = .next t := h
    unfold execBankChange at h
    split at h
    · cases h
      exact ⟨rfl, rfl⟩
    split at h
    · cases h
      exact .refl s
    · exact serve_line h ⟨rfl, rfl⟩ ⟨by simp, State.changeBank_settled bank _⟩
  | resetNRelease =>
    replace h : execResetNRelease s = .next t := h
    unfold execResetNRelease at h
    split at h
    · cases h
      exact .refl s
    · cases h
      exact LineOnly.trans (u := { s with lines := { s.lines with resetN := true } }) ⟨rfl, rfl⟩
        (State.leaveHeld_line _)
  | powerOnRelease =>
    replace h : execPowerOnRelease s = .next t := h
    unfold execPowerOnRelease at h
    split at h
    · cases h
      exact LineOnly.trans (u := { s with lines := { s.lines with powerHeld := false } }) ⟨rfl, rfl⟩
        (State.leaveHeld_line _)
    · cases h
      exact .refl s
  | _ => cases hc

/-! ## Feed bytes -/

/-- A frame taken is its own row; a row that is no frame is taken as nothing. -/
theorem takeFrame_cases (i : Instr) (s t : State) (h : takeFrame i s = .next t) :
    t = s ∨ ((rowClass i).isFrame = true ∧ exec i s = .next t) := by
  cases i with
  | feedByte _ | byteIntervalTimeout | returnFrameSent | commitCompletion | forwardCount _ | reverseCount
  | indexPulse _ | stall | measurementTimeout _ | estop _ | feedFault _ | bankChange _ | monitorSample _ _ _
  | resetNAssert | resetNRelease | powerOn | powerOnRelease | supplyFall =>
    cases h
    exact Or.inl rfl
  | _ => exact Or.inr ⟨rfl, h⟩

/-- A feed byte moves the receive side and nothing of the tables, the job and the lines, or it ends a frame, whose row
then acts. -/
theorem exec_feedByte_cases (b : Byte) (s t : State) (h : exec (.feedByte b) s = .next t) :
    (t.store = s.store ∧ t.job = s.job ∧ t.lines = s.lines) ∨
      ∃ i, (rowClass i).isFrame = true ∧ exec i (s.receiving .hunt) = .next t := by
  replace h : (if s.inReset then Host.Outcome.next s else receiveByte b s) = .next t := h
  split at h
  · cases h
    exact Or.inl ⟨rfl, rfl, rfl⟩
  unfold receiveByte at h
  split at h
  · split at h <;> cases h <;> exact Or.inl ⟨rfl, rfl, rfl⟩
  · repeat' split at h
    all_goals cases h; exact Or.inl ⟨rfl, rfl, rfl⟩
  · cases h
    refine Or.inl ?_
    unfold State.headerByte State.headerDone
    repeat' split
    all_goals exact ⟨rfl, rfl, rfl⟩
  · cases h
    refine Or.inl ?_
    unfold State.payloadByte
    split <;> exact ⟨rfl, rfl, rfl⟩
  · cases h
    exact Or.inl ⟨rfl, rfl, rfl⟩
  · unfold frameEnd at h
    split at h
    · rcases takeFrame_cases _ _ t h with rfl | hrow
      · exact Or.inl ⟨rfl, rfl, rfl⟩
      · exact Or.inr ⟨_, hrow⟩
    · cases h
      exact Or.inl ⟨rfl, rfl, rfl⟩

/-! ## The statement -/

/-- No frame moves a line. -/
theorem exec_frame_lines (c : Instr) (hc : (rowClass c).isFrame = true) (s t : State) (h : exec c s = .next t) :
    t.lines = s.lines := by
  cases hr : rowClass c with
  | quiet => exact (exec_quiet c hr s t h).lines
  | setting => exact (exec_setting c hr s t h).lines
  | table => exact (exec_table c hr s t h).lines
  | job => exact (exec_job c hr s t h).lines
  | count | line | full | feed =>
    rw [hr] at hc
    cases hc

theorem exec_feed_lines (c : Instr) (hc : rowClass c = .feed) (s t : State) (h : exec c s = .next t) :
    t.lines = s.lines := by
  cases c with
  | feedByte b =>
    rcases exec_feedByte_cases b s t h with ⟨-, -, hlines⟩ | ⟨i, hi, hrow⟩
    · exact hlines
    · exact exec_frame_lines i hi (s.receiving .hunt) t hrow
  | _ => cases hc

theorem exec_lines (c : Instr) (hc : movesLine c = false) (s t : State) (h : exec c s = .next t) :
    t.lines = s.lines := by
  rw [movesLine_eq] at hc
  cases hr : rowClass c with
  | quiet | setting | table | job => exact exec_frame_lines c (by rw [hr]; rfl) s t h
  | count => exact (exec_count c hr s t h).2.1
  | feed => exact exec_feed_lines c hr s t h
  | line | full =>
    rw [hr] at hc
    cases hc

theorem exec_store (c : Instr) (hc : mayChangeTables c = false) (s t : State) (h : exec c s = .next t) :
    t.store = s.store := by
  rw [mayChangeTables_eq] at hc
  cases hr : rowClass c with
  | quiet => exact (exec_quiet c hr s t h).store
  | setting => exact (exec_setting c hr s t h).store
  | count => exact (exec_count c hr s t h).1
  | line => exact (exec_line c hr s t h).store
  | table | job | full | feed =>
    rw [hr] at hc
    cases hc

/-- What the wear of the heads says of one head. -/
theorem wear_of_wears {s t : State} (h : t.wears = s.wears) (g : Head) :
    (t.channels.get g).wear = (s.channels.get g).wear ∧
      (t.channels.get g).wearSub = (s.channels.get g).wearSub := by
  have hg := congrArg (fun p => PerHead.get p g) h
  simpa only [State.wears, PerHead.get_mapIdx, Prod.mk.injEq] using hg

theorem fields_of_standing {s t : State} (h : t.standing = s.standing) :
    t.job.record = s.job.record ∧ t.ctu.settings = s.ctu.settings ∧ t.rpt.mask = s.rpt.mask :=
  ⟨congrArg Standing.record h, congrArg Standing.timing h, congrArg Standing.mask h⟩

theorem exec_settings (c : Instr) (hc : mayChangeSettings c = false) (s t : State) (h : exec c s = .next t) :
    (t.job.record = s.job.record ∧ t.ctu.settings = s.ctu.settings ∧ t.rpt.mask = s.rpt.mask) ∧
      t.wears = s.wears := by
  have hsettled : t.settled = s.settled →
      (t.job.record = s.job.record ∧ t.ctu.settings = s.ctu.settings ∧ t.rpt.mask = s.rpt.mask) ∧
        t.wears = s.wears := fun e => ⟨fields_of_standing (State.standing_of_settled e), congrArg Prod.snd e⟩
  rw [mayChangeSettings_eq] at hc
  cases hr : rowClass c with
  | quiet => exact hsettled (exec_quiet c hr s t h).settled
  | table => exact hsettled (exec_table c hr s t h).settled
  | line => exact hsettled (exec_line c hr s t h).settled
  | job =>
    obtain ⟨-, hrecord, htiming, hmask, hwears⟩ := exec_job c hr s t h
    exact ⟨⟨hrecord, htiming, hmask⟩, hwears⟩
  | setting | count | full | feed =>
    rw [hr] at hc
    cases hc

/-- Settles O60, class by class of the rows. -/
theorem tablesSettingsAndLinesChangeOnlyByTheirRows : Obligations.TablesSettingsAndLinesChangeOnlyByTheirRows := by
  intro c s t h
  refine ⟨fun hc => exec_store c hc s t h, fun hc => ?_, fun time hc => ?_, fun hc => exec_lines c hc s t h⟩
  · obtain ⟨⟨hrecord, htiming, hmask⟩, hwears⟩ := exec_settings c hc s t h
    exact ⟨hrecord, htiming, hmask, wear_of_wears hwears⟩
  · exact fields_of_standing (exec_count c (by rw [hc]; rfl) s t h).2.2

end Sys2Proof.Machine
end

section
/-! The slots of a job are BOUND exactly outside SETUP (O48). -/

namespace Sys2Proof.Machine

/-- The record and the phase of a job, and which slots are BOUND, are all the binding of a job speaks of. -/
theorem State.BindingExact.of_same {s t : State} (hs : s.BindingExact)
    (hsetup : t.job.state = .setup ↔ s.job.state = .setup)
    (hrecord : s.job.state ≠ .setup → t.job.record = s.job.record)
    (hbound : ∀ i, (t.store.slot i).state = .bound ↔ (s.store.slot i).state = .bound) : t.BindingExact where
  setup ht i hi := hs.setup (hsetup.mp ht) i ((hbound i).mp hi)
  bound ht r hr i hi := by
    have hne : s.job.state ≠ .setup := fun h => ht (hsetup.mpr h)
    exact (hbound i).mpr (hs.bound hne r ((hrecord hne).symm.trans hr) i hi)

/-- A part in SETUP without a BOUND slot. -/
theorem State.BindingExact.of_setup {t : State} (hj : t.job.state = .setup)
    (hb : ∀ i, (t.store.slot i).state ≠ .bound) : t.BindingExact :=
  ⟨fun _ => hb, fun hne => absurd hj hne⟩

/-- The binding of a job is read from the store and the job alone. -/
theorem State.BindingExact.congr {s t : State} (hs : s.BindingExact) (hstore : t.store = s.store)
    (hjob : t.job = s.job) : t.BindingExact :=
  hs.of_same (by rw [hjob]) (fun _ => by rw [hjob]) (fun i => by rw [hstore])

theorem setup_of_standing {s t : State} (h : t.standing = s.standing) :
    t.job.state = .setup ↔ s.job.state = .setup := by
  have hs : (t.job.state == .setup) = (s.job.state == .setup) := congrArg Standing.inSetup h
  rw [← beq_iff_eq, hs, beq_iff_eq]

theorem State.BindingExact.of_standing {s t : State} (hs : s.BindingExact) (h : t.standing = s.standing)
    (hbound : ∀ i, (t.store.slot i).state = .bound ↔ (s.store.slot i).state = .bound) : t.BindingExact :=
  hs.of_same (setup_of_standing h) (fun _ => congrArg Standing.record h) hbound

/-! ## The rows that bind and unbind -/

theorem command_binding {c : CommandName} {tag : Half} {p : List Byte} {body : State → Answer} {s t : State}
    (hs : s.BindingExact) (hb : (body s).1.BindingExact) (h : command c tag p body s = .next t) :
    t.BindingExact :=
  command_keeps State.BindingExact (fun _ _ hu => hu.congr rfl rfl) hs (fun _ => hb) h

/-- An ARM binds every slot of the job (R21, R99). -/
theorem armRow_binding (s : State) (hs : s.BindingExact) : (arm s).1.BindingExact := by
  unfold arm
  split
  · exact hs
  rename_i r hr
  split
  · exact hs
  rename_i hok
  refine ⟨nofun, fun _ r' hr' i hi => ?_⟩
  have hr' : s.job.record = some r' := hr'
  rw [hr] at hr'
  cases hr'
  have hlt : i < 37 := Store.lt_of_readable (s.armRefusal_eq_none r hok i hi)
  show ((s.store.bind r.slots).slot i).state = .bound
  rw [Store.slot_bind, if_pos ⟨hi, hlt⟩]

theorem Store.unbind_ne_bound (t : Store) (i : Nat) : (t.unbind.slot i).state ≠ .bound := by
  rw [Store.slot_unbind]
  exact Slot.unbound_ne_bound _

theorem Store.softReset_ne_bound (t : Store) (i : Nat) : (t.softReset.slot i).state ≠ .bound := by
  rw [Store.slot_softReset]
  exact Slot.softReset_ne_bound _

theorem disarm_binding (s : State) : (disarm s).1.BindingExact := by
  refine .of_setup ?_ (fun i => ?_)
  · simp [disarm, State.disarmJob, State.freeHeads]
  · simpa [disarm, State.disarmJob, State.freeHeads] using s.store.unbind_ne_bound i

theorem release_binding (s : State) : (release s).1.BindingExact := by
  refine .of_setup ?_ (fun i => ?_)
  · simp [release, State.releaseJob, State.freeHeads]
  · simpa [release, State.releaseJob, State.freeHeads] using s.store.unbind_ne_bound i

theorem exec_job_binding (c : Instr) (hc : rowClass c = .job) (s t : State) (hs : s.BindingExact)
    (h : exec c s = .next t) : t.BindingExact := by
  cases c with
  | arm tag p => exact command_binding hs (armRow_binding s hs) h
  | disarm tag p => exact command_binding hs (disarm_binding s) h
  | release tag p => exact command_binding hs (release_binding s) h
  | reset tag p => exact command_binding hs (.of_setup rfl s.store.softReset_ne_bound) h
  | _ => cases hc

/-! ## Every row -/

/-- After a full reset no slot is BOUND. -/
theorem State.fullReset_binding (s : State) : s.fullReset.BindingExact :=
  .of_setup rfl (fun i => by
    show (Store.afterReset.slot i).state ≠ .bound
    rw [Store.slot_afterReset]
    exact SlotState.noConfusion)

theorem exec_full_binding (c : Instr) (hc : rowClass c = .full) (s t : State) (h : exec c s = .next t) :
    t.BindingExact := by
  cases c with
  | resetNAssert | powerOn | supplyFall =>
    cases h
    exact State.fullReset_binding _
  | _ => cases hc

theorem exec_frame_binding (c : Instr) (hc : (rowClass c).isFrame = true) (s t : State) (hw : s.store.Wf)
    (hs : s.BindingExact) (h : exec c s = .next t) : t.BindingExact := by
  cases hr : rowClass c with
  | quiet =>
    obtain ⟨hstore, -, hsettled⟩ := exec_quiet c hr s t h
    exact hs.of_standing (State.standing_of_settled hsettled) (fun i => by rw [hstore])
  | setting =>
    obtain ⟨hstore, -, hstate, hrecord⟩ := exec_setting c hr s t h
    exact hs.of_same (by rw [hstate]) hrecord (fun i => by rw [hstore])
  | table =>
    obtain ⟨-, hsettled, hbound⟩ := exec_table c hr s t h
    exact hs.of_standing (State.standing_of_settled hsettled) (hbound hw)
  | job => exact exec_job_binding c hr s t hs h
  | count | line | full | feed =>
    rw [hr] at hc
    cases hc

theorem exec_feed_binding (c : Instr) (hc : rowClass c = .feed) (s t : State) (hw : s.store.Wf)
    (hs : s.BindingExact) (h : exec c s = .next t) : t.BindingExact := by
  cases c with
  | feedByte b =>
    rcases exec_feedByte_cases b s t h with ⟨hstore, hjob, -⟩ | ⟨i, hi, hrow⟩
    · exact hs.congr hstore hjob
    · exact exec_frame_binding i hi (s.receiving .hunt) t hw (hs.congr rfl rfl) hrow
  | _ => cases hc

/-- Every row keeps the binding of the job's slots. -/
theorem exec_binding (c : Instr) (s t : State) (hw : s.store.Wf) (hs : s.BindingExact) (h : exec c s = .next t) :
    t.BindingExact := by
  cases hr : rowClass c with
  | quiet | setting | table | job => exact exec_frame_binding c (by rw [hr]; rfl) s t hw hs h
  | count =>
    obtain ⟨hstore, -, hstanding⟩ := exec_count c hr s t h
    exact hs.of_standing hstanding (fun i => by rw [hstore])
  | line =>
    obtain ⟨hstore, hsettled⟩ := exec_line c hr s t h
    exact hs.of_standing (State.standing_of_settled hsettled) (fun i => by rw [hstore])
  | full => exact exec_full_binding c hr s t h
  | feed => exact exec_feed_binding c hr s t hw hs h

/-- Settles O48: no row leaves SETUP or enters it without binding or unbinding the slots of the job. -/
theorem slotsOfJobStayBound : Obligations.SlotsOfJobStayBound := by
  intro s t hw hs h
  rcases step_cases s t h with rfl | ⟨c, rest, -, h⟩
  · exact hs
  · exact exec_binding c { s with pending := rest } t hw (hs.congr rfl rfl) h

end Sys2Proof.Machine
end

section
/-! SUPPORT. The step for the four heads, and what a departure, the end of a job, an abort and the failure of a
calibration leave at each head. -/

namespace Sys2Proof.Machine

open Sys2Proof.Claims

/-! ## The step for the four heads -/

theorem mem_allHeads (h : Head) : h ∈ allHeads :=
  forall_head (· ∈ allHeads) (by decide) (by decide) (by decide) (by decide) h

/-- A check of the four heads one by one. -/
theorem all_allHeads (p : Head → Bool) : allHeads.all p = true ↔ ∀ h : Head, p h = true := by
  rw [List.all_eq_true]
  exact ⟨fun hp h => hp h (mem_allHeads h), fun hp h _ => hp h⟩

/-- Some head passes a check. -/
theorem any_head_iff (p : Head → Bool) : (p 0 || p 1 || p 2 || p 3) = true ↔ ∃ h : Head, p h = true := by
  have hany : (p 0 || p 1 || p 2 || p 3) = allHeads.any p := by simp [allHeads, Bool.or_assoc]
  rw [hany, List.any_eq_true]
  exact ⟨fun ⟨h, _, hp⟩ => ⟨h, hp⟩, fun ⟨h, hp⟩ => ⟨h, mem_allHeads h, hp⟩⟩

theorem forHeads_eq_foldl {σ : Type} (f : Head → σ → σ) (s : σ) :
    forHeads f s = allHeads.foldl (fun u h => f h u) s := rfl

/-- Steps that are the same for each head are the same for the four heads. -/
theorem forHeads_congr {σ : Type} {f g : Head → σ → σ} (hfg : ∀ h s, f h s = g h s) (s : σ) :
    forHeads f s = forHeads g s := by
  simp only [forHeads, hfg]

/-- A step that no head takes. -/
theorem forHeads_idle {σ : Type} {f : Head → σ → σ} {s : σ} (hf : ∀ h, f h s = s) : forHeads f s = s := by
  simp only [forHeads, hf]

/-- What each head's own step brings about, and no other head's step undoes, holds of every head in the end. -/
theorem forHeads_establishes {σ : Type} (P : Head → σ → Prop) (f : Head → σ → σ) (hown : ∀ h s, P h (f h s))
    (hkeep : ∀ h k s, P k s → P k (f h s)) (s : σ) (h : Head) : P h (forHeads f s) := by
  refine forall_head (P · (forHeads f s)) ?_ ?_ ?_ ?_ h
  · exact hkeep 3 0 _ (hkeep 2 0 _ (hkeep 1 0 _ (hown 0 _)))
  · exact hkeep 3 1 _ (hkeep 2 1 _ (hown 1 _))
  · exact hkeep 3 2 _ (hown 2 _)
  · exact hown 3 _

/-- When a head's step changes the view of no other head, and its own view depends on that view alone, each head
stands after the four steps as its own step leaves it. -/
theorem forHeads_view_of_own {σ τ : Type} (v : Head → σ → τ) (f : Head → σ → σ)
    (hother : ∀ h k s, k ≠ h → v k (f h s) = v k s)
    (hown : ∀ h s t, v h s = v h t → v h (f h s) = v h (f h t)) (s : σ) (h : Head) :
    v h (forHeads f s) = v h (f h s) := by
  refine forall_head (fun h => v h (forHeads f s) = v h (f h s)) ?_ ?_ ?_ ?_ h
  · exact ((hother 3 0 _ (by decide)).trans (hother 2 0 _ (by decide))).trans (hother 1 0 _ (by decide))
  · exact ((hother 3 1 _ (by decide)).trans (hother 2 1 _ (by decide))).trans
      (hown 1 _ _ (hother 0 1 _ (by decide)))
  · exact (hother 3 2 _ (by decide)).trans
      (hown 2 _ _ ((hother 1 2 _ (by decide)).trans (hother 0 2 _ (by decide))))
  · exact hown 3 _ _ (((hother 2 3 _ (by decide)).trans (hother 1 3 _ (by decide))).trans (hother 0 3 _ (by decide)))

/-- Steps that agree at a head wherever its view is the view at the outset agree for the four heads. -/
theorem forHeads_congr_of_view {σ τ : Type} (v : Head → σ → τ) {f g : Head → σ → σ}
    (hother : ∀ h k s, k ≠ h → v k (g h s) = v k s) (s : σ) (hfg : ∀ h t, v h t = v h s → f h t = g h t) :
    forHeads f s = forHeads g s := by
  have h0 : f 0 s = g 0 s := hfg 0 _ rfl
  have h1 : f 1 (g 0 s) = g 1 (g 0 s) := hfg 1 _ (hother 0 1 _ (by decide))
  have h2 : f 2 (g 1 (g 0 s)) = g 2 (g 1 (g 0 s)) :=
    hfg 2 _ ((hother 1 2 _ (by decide)).trans (hother 0 2 _ (by decide)))
  have h3 : f 3 (g 2 (g 1 (g 0 s))) = g 3 (g 2 (g 1 (g 0 s))) :=
    hfg 3 _ (((hother 2 3 _ (by decide)).trans (hother 1 3 _ (by decide))).trans (hother 0 3 _ (by decide)))
  rw [forHeads, h0, h1, h2, h3, forHeads]

/-- An induction along the four heads: what holds before a head's step holds before the next head's. -/
theorem forHeads_induction {σ : Type} (P : Nat → σ → Prop) (f : Head → σ → σ)
    (hstep : ∀ (h : Head) s, P h.val s → P (h.val + 1) (f h s)) {s : σ} (hs : P 0 s) : P 4 (forHeads f s) :=
  hstep 3 _ (hstep 2 _ (hstep 1 _ (hstep 0 _ hs)))

/-- A step that changes nothing when it is taken again is taken once by the heads that take it at all. -/
theorem forHeads_once {σ : Type} (p : Head → Bool) (g : σ → σ) (hg : ∀ s, g (g s) = g s) (s : σ)
    (hp : ∃ h, p h = true) : forHeads (fun h s => if p h then g s else s) s = g s := by
  have hstep : ∀ (h : Head) (u : σ), (u = g s ∨ u = s ∧ ∃ k : Head, h.val ≤ k.val ∧ p k = true) →
      ((if p h then g u else u) = g s ∨
        (if p h then g u else u) = s ∧ ∃ k : Head, h.val + 1 ≤ k.val ∧ p k = true) := by
    rintro h u (rfl | ⟨rfl, k, hk, hpk⟩)
    · left
      split
      · exact hg s
      · rfl
    · by_cases hph : p h = true
      · exact .inl (if_pos hph)
      · have hne : h.val ≠ k.val := fun hv => hph (Fin.ext hv ▸ hpk)
        exact .inr ⟨if_neg hph, k, by omega, hpk⟩
  have hstart : s = g s ∨ s = s ∧ ∃ k : Head, 0 ≤ k.val ∧ p k = true :=
    .inr ⟨rfl, hp.imp fun k hk => ⟨Nat.zero_le _, hk⟩⟩
  rcases forHeads_induction (fun i u => u = g s ∨ u = s ∧ ∃ k : Head, i ≤ k.val ∧ p k = true) _ hstep hstart with
    hdone | ⟨-, k, hk, -⟩
  · exact hdone
  · exact absurd k.isLt (Nat.not_lt.mpr hk)

/-- A change of one channel after another is the change of the four channels. -/
theorem forHeads_updChannel (f : Head → Channel → Channel) (s : State) :
    forHeads (fun h => State.updChannel h (f h)) s = { s with channels := s.channels.mapIdx f } := rfl

/-! ## Views of the job and the four channels -/

theorem jobCutting_iff (j : JobState) : jobCutting j = true ↔ j = .running ∨ j = .stopping := by
  simp [jobCutting]

theorem jobLive_iff (j : JobState) : jobLive j = true ↔ j = .armed ∨ j = .running ∨ j = .stopping := by
  simp [jobLive, or_assoc]

theorem State.anyActive_iff (s : State) : s.anyActive = true ↔ ∃ h : Head, s.active h = true :=
  any_head_iff (fun h => s.active h)

theorem State.anyActive_eq_false_iff (s : State) : s.anyActive = false ↔ ∀ h : Head, s.active h = false := by
  rw [Bool.eq_false_iff, ne_eq, s.anyActive_iff]
  simp only [not_exists, Bool.not_eq_true]

theorem State.anyCutting_eq (s : State) : s.anyCutting = allHeads.any (fun h => s.channelState h == .cutting) := by
  simp [State.anyCutting, allHeads, Bool.or_assoc]

/-! ## Leaving the job -/

theorem State.account_eq (h : Head) (s : State) : s.account h = accountOf h s := by
  unfold State.account accountOf
  cases hst : s.channelState h <;> cases (s.queues.get h).inProgress <;> rfl

theorem State.leavesShort_eq (h : Head) (s : State) : s.leavesShort h = (accountOf h s).any (·.short) := by
  rw [State.leavesShort, State.account_eq]
  cases accountOf h s <;> rfl

theorem State.departEvent_eq (h : Head) (st : ChannelState) (cause : StopCause) (s : State) :
    s.departEvent h st cause = leaveEvent h st cause s := by
  rw [State.departEvent, State.account_eq]
  rfl

/-- FEED_EN after a channel leaves CUTTING: whether another one is CUTTING (R43). -/
theorem State.depart_anyCutting (h : Head) (st : ChannelState) (cause : StopCause) (s : State) (hst : st ≠ .cutting) :
    (s.depart h st cause).anyCutting = allHeads.any (fun g => g != h && s.channelState g == .cutting) := by
  rw [State.anyCutting_eq]
  refine congrArg allHeads.any (funext fun g => ?_)
  by_cases hg : g = h
  · subst hg
    simp [State.channelState, Channel.leave, Channel.enter, hst]
  · simp [State.channelState, PerHead.get_set_other _ _ _ _ hg, hg]

theorem State.endResult_eq (s : State) : s.endResult = jobResult s := by
  have hdone : (allHeads.all (fun h => (s.headEntry h).isNone || s.channelState h == .done)) = true ↔
      ∀ h : Head, (s.headEntry h).isSome = true → s.channelState h = .done := by
    rw [all_allHeads]
    refine forall_congr' fun h => ?_
    cases s.headEntry h <;> simp
  simp only [State.endResult, jobResult, hdone]

theorem State.endJob_eq (s : State) : s.endJob = jobClosed s := by
  have hends : (jobLive s.job.state && !s.anyActive) = true ↔
      (s.job.state = .armed ∨ s.job.state = .running ∨ s.job.state = .stopping) ∧
        ∀ h : Head, s.active h = false := by
    rw [Bool.and_eq_true, jobLive_iff, Bool.not_eq_true', s.anyActive_eq_false_iff]
  simp only [State.endJob, jobClosed, hends, State.endResult_eq, State.enterJob]
  rfl

/-- A departure with its event, as R104, R115 and R116 say it. -/
theorem State.leaveJob_eq (h : Head) (st : ChannelState) (cause : StopCause) (s : State)
    (hoff : engaged st = false) : s.leaveJob h st cause = jobClosed (left h st cause s) := by
  have hst : st ≠ .cutting := by
    rintro rfl
    cases hoff
  have hleft : ((s.depart h st cause).dropFeed).post (s.departEvent h st cause) = left h st cause s := by
    rw [State.departEvent_eq, State.dropFeed, s.depart_anyCutting h st cause hst]
    simp only [State.depart, left, Rpt.updHead, shortCount, State.leavesShort_eq, Channel.leave, Channel.enter, hoff]
    rfl
  rw [State.leaveJob, hleft, State.endJob_eq]

theorem State.leaveJob_channels (h : Head) (st : ChannelState) (cause : StopCause) (s : State) :
    (s.leaveJob h st cause).channels = s.channels.set h ((s.channels.get h).leave st cause) := by
  simp [State.leaveJob]

theorem State.leaveJob_queues (h : Head) (st : ChannelState) (cause : StopCause) (s : State) :
    (s.leaveJob h st cause).queues = s.queues.set h (s.queues.get h).emptied := by
  simp [State.leaveJob]

theorem State.leaveJob_dbu (h : Head) (st : ChannelState) (cause : StopCause) (s : State) :
    (s.leaveJob h st cause).dbu = { s.dbu with demand := s.dbu.demand.set h 0 } := by
  simp [State.leaveJob]

/-! ## Calibrations -/

theorem State.failEvent_eq (h : Head) (cause : CalCause) (detail : CalDetail) (s : State) :
    s.failEvent h cause detail =
      .calFailed h cause (s.cals.get h).phase (s.cals.get h).lowWidth (s.cals.get h).highWidth
        (match (s.cals.get h).phase with
         | .cut _ => some (s.channels.get h).cellIndex
         | _ => none) detail := by
  rw [State.failEvent]
  cases (s.cals.get h).phase <;> rfl

theorem State.failCal_eq (h : Head) (cause : CalCause) (detail : CalDetail) (s : State) :
    s.failCal h cause detail = calFailed h cause detail s := by
  rw [State.failCal, State.failEvent_eq]
  rfl

/-- Of the calibrations, the failure of one ends that one. -/
theorem State.failCal_calibrating (h k : Head) (cause : CalCause) (detail : CalDetail) (s : State) :
    (s.failCal h cause detail).calibrating k = (k != h && s.calibrating k) := by
  by_cases hk : k = h
  · subst hk
    simp [State.calibrating, State.failCal, State.endCal, Calibration.ended, CalPhase.setup?]
  · simp [State.calibrating, State.failCal, State.endCal, PerHead.get_set_other _ _ _ _ hk, hk]

theorem State.failAllCals_calibrating (cause : CalCause) (s : State) (h : Head) :
    (s.failAllCals cause).calibrating h = false := by
  refine forHeads_establishes (fun h u => State.calibrating h u = false) _ (fun h u => ?_) (fun h k u hk => ?_) s h
  · split
    · simp [State.failCal_calibrating]
    · exact Bool.eq_false_iff.mpr ‹_›
  · split
    · simp [State.failCal_calibrating, hk]
    · exact hk

/-! ## Abort -/

theorem State.abortJob_of_not_live (cause : StopCause) (s : State) (hlive : jobLive s.job.state = false) :
    s.abortJob cause = s := by
  rw [State.abortJob, if_neg (Bool.eq_false_iff.mp hlive)]

theorem State.abortJob_job (cause : StopCause) (s : State) (hlive : jobLive s.job.state = true) :
    (s.abortJob cause).job = { s.job with state := .aborted, result := none, abortCause := some cause } := by
  have hhalt := forHeads_view State.job (State.haltIfActive cause) (fun h s => by simp)
  simp [State.abortJob, hlive, hhalt]

/-- An abort leaves no channel active. -/
theorem State.abortJob_active (cause : StopCause) (s : State) (hlive : jobLive s.job.state = true) (h : Head) :
    (s.abortJob cause).active h = false := by
  have hstep : ∀ (g k : Head) (u : State),
      State.active k (u.haltIfActive cause g) = (u.active k && decide (k ≠ g)) := by
    intro g k u
    unfold State.haltIfActive
    by_cases hk : k = g
    · subst hk
      split
      · simp [State.active, State.channelState, Channel.leave, Channel.enter, activeState]
      · simp_all
    · split
      · simp [State.active, State.channelState, PerHead.get_set_other _ _ _ _ hk, hk]
      · simp [hk]
  have hhalted := forHeads_establishes (fun k u => State.active k u = false) (State.haltIfActive cause)
    (fun g u => by simp [hstep]) (fun g k u hk => by simp [hstep, hk])
    { s with job := { s.job with state := .aborted, result := none, abortCause := some cause } } h
  unfold State.active State.channelState at hhalted ⊢
  simpa [State.abortJob, hlive] using hhalted

/-- A second abort finds no live job. -/
theorem State.abortJob_abortJob (cause again : StopCause) (s : State) :
    (s.abortJob cause).abortJob again = s.abortJob cause := by
  refine (s.abortJob cause).abortJob_of_not_live again ?_
  cases hlive : jobLive s.job.state with
  | false => rwa [s.abortJob_of_not_live cause hlive]
  | true =>
    rw [s.abortJob_job cause hlive]
    rfl

theorem State.abortJob_ctu (cause : StopCause) (s : State) (hlive : jobLive s.job.state = true) :
    (s.abortJob cause).ctu = { s.ctu with feedEn := false } := by
  have hhalt := forHeads_view State.ctu (State.haltIfActive cause) (fun h s => by simp)
  simp [State.abortJob, hlive, hhalt]

end Sys2Proof.Machine
end

section
/-! TIMING SET (O23). -/

namespace Sys2Proof.Machine

open Sys2Proof.Claims

/-! ## Checks in order -/

/-- Checks that stand in the order of their positions fail first at the first bad position. -/
theorem firstFailure_at_first_bad {checks : List (Bool × Nat)} {bad : Nat → Prop} {n : Nat}
    (hchecks : ∀ c ∈ checks, c.1 = true ↔ ¬ bad c.2) (hordered : (checks.map Prod.snd).Pairwise (· < ·))
    (hn : n ∈ checks.map Prod.snd) (hbad : bad n) (hfirst : ∀ m, m < n → ¬ bad m) :
    firstFailure checks = some n := by
  induction checks with
  | nil => cases hn
  | cons c rest ih =>
    rw [List.map_cons, List.pairwise_cons] at hordered
    have hc := hchecks c List.mem_cons_self
    rcases List.mem_cons.mp hn with rfl | hrest
    · have hfails : c.1 = false := by simpa [hbad] using hc
      simp [firstFailure, hfails]
    · have hholds : c.1 = true := hc.mpr (hfirst _ (hordered.1 n hrest))
      have := ih (fun d hd => hchecks d (List.mem_cons_of_mem c hd)) hordered.2 hrest
      simpa [firstFailure, hholds] using this

/-! ## Fields of one and of four bytes -/

theorem beNat_be8 (n : Nat) (h : n < 256) : beNat (be8 n) = n := by
  rw [be8, beNat_one, BitVec.toNat_ofNat]
  omega

theorem beNat_be32 (n : Nat) (h : n < 4294967296) : beNat (be32 n) = n := by
  simp only [beNat, be32, be24, be16, List.foldl_cons, List.foldl_nil, BitVec.toNat_ofNat]
  omega

/-! ## TIMING SET -/

/-- The settings that the parameters of a TIMING SET name. -/
def timingOf (e src slip nominal soft hard stall : Nat) : TimingSettings :=
  { counts := e, source := sourceOf src, slipTolerance := slip, nominalPeriod := nominal, softWindow := soft
    hardWindow := hard, stallTimeout := stall }

section Parameters

variable {e src slip nominal soft hard stall : Nat}

theorem timingBytes_source (hsrc : src < 256) :
    field (timingBytes e src slip nominal soft hard stall) 4 1 = src :=
  beNat_be8 src hsrc

/-- The settings are read back from the parameter bytes. -/
theorem timingParams_timingBytes (he : e < 4294967296) (hsrc : src < 256) (hslip : slip < 256)
    (hnominal : nominal < 4294967296) (hsoft : soft < 256) (hhard : hard < 256) (hstall : stall < 65536) :
    timingParams (timingBytes e src slip nominal soft hard stall) =
      timingOf e src slip nominal soft hard stall := by
  rw [timingParams, timingBytes_source hsrc]
  exact congr (congr (congr (congr (congr (congrArg (TimingSettings.mk · (sourceOf src)) (beNat_be32 e he))
    (beNat_be8 slip hslip)) (beNat_be32 nominal hnominal)) (beNat_be8 soft hsoft)) (beNat_be8 hard hhard))
    (beNat_be16 stall hstall)

/-- The range checks of a TIMING SET, with their positions (R27). -/
def timingChecks (e src slip nominal soft hard stall : Nat) : List (Bool × Nat) :=
  [(within 4096 262144 e, 1), (within 0 2 src, 2), (within 0 255 slip, 3), (within 10000 10000000 nominal, 4),
   (within 1 100 soft, 5), (within soft 200 hard, 6), (within 10 10000 stall, 7)]

theorem timingFailure_timingBytes (he : e < 4294967296) (hsrc : src < 256) (hslip : slip < 256)
    (hnominal : nominal < 4294967296) (hsoft : soft < 256) (hhard : hard < 256) (hstall : stall < 65536) :
    timingFailure (timingBytes e src slip nominal soft hard stall) =
      firstFailure (timingChecks e src slip nominal soft hard stall) := by
  rw [timingFailure, timingParams_timingBytes he hsrc hslip hnominal hsoft hhard hstall, timingBytes_source hsrc]
  rfl

/-- A check of R27 holds exactly when its parameter is in range; every value of the slip tolerance is. -/
theorem timingChecks_hold_iff (hslip : slip < 256) :
    ∀ c ∈ timingChecks e src slip nominal soft hard stall,
      c.1 = true ↔ ¬ timingBad e src nominal soft hard stall c.2 := by
  simp only [timingChecks, List.forall_mem_cons, within, timingBad, Bool.and_eq_true, decide_eq_true_eq]
  refine ⟨by omega, by omega, ?_, by omega, by omega, by omega, by omega, nofun⟩
  exact iff_of_true ⟨Nat.zero_le slip, Nat.le_of_lt_succ hslip⟩ id

theorem timingChecks_positions :
    (timingChecks e src slip nominal soft hard stall).map Prod.snd = [1, 2, 3, 4, 5, 6, 7] := rfl

/-- Only a parameter that R27 gives a range can be out of range. -/
theorem position_of_timingBad {n : Nat} (hbad : timingBad e src nominal soft hard stall n) :
    n ∈ (timingChecks e src slip nominal soft hard stall).map Prod.snd := by
  rw [timingChecks_positions]
  unfold timingBad at hbad
  split at hbad
  case h_7 => exact hbad.elim
  all_goals decide

end Parameters

/-- An accepted TIMING SET resolves the source that its parameter names, and AUTO starts its count anew (R28). -/
theorem setTiming_timingOf (e src slip nominal soft hard stall : Nat) (s : State) :
    s.setTiming (timingOf e src slip nominal soft hard stall) =
      { s with
        ctu := { s.ctu with
          settings := some (timingOf e src slip nominal soft hard stall)
          angle := 0, aligned := false, periodValid := false, reference := none, stallRunning := true
          resolved := if src = 0 then some .line else if src = 1 then some .count else none
          autoCount := if 2 ≤ src then 0 else s.ctu.autoCount }
        rpt := { s.rpt with maxDeviation := 0 } } := by
  match src with
  | 0 => rfl
  | 1 => rfl
  | n + 2 => simp [State.setTiming, timingOf, sourceOf, resolveAtOnce]

theorem calibratingHead_isSome (s : State) :
    s.calibratingHead.isSome = true ↔ ∃ h : Head, s.channelState h = .calibrating := by
  rw [State.calibratingHead, List.find?_isSome]
  simp only [beq_iff_eq]
  exact ⟨fun ⟨h, _, hc⟩ => ⟨h, hc⟩, fun ⟨h, hc⟩ => ⟨h, mem_allHeads h, hc⟩⟩

theorem exec_timingSet (tag : Half) (e src slip nominal soft hard stall : Nat) (s : State)
    (hr : s.inReset = false) (hsetup : s.job.state = .setup) :
    exec (.timingSet tag (timingBytes e src slip nominal soft hard stall)) s =
      .next (answerOf 0x10 tag (timingSet (timingBytes e src slip nominal soft hard stall) s)) :=
  command_taken .timingSet tag _ _ s hr rfl (by rw [hsetup]; rfl)

/-- Settles O23, by the checks in their order. -/
theorem timingSetReplacesSettings : Obligations.TimingSetReplacesSettings := by
  intro tag e src slip nominal soft hard stall s hr hsetup he hsrc hslip hnominal hsoft hhard hstall params bad
  have hexec := exec_timingSet tag e src slip nominal soft hard stall s hr hsetup
  have hbusy := calibratingHead_isSome s
  have hfailure := timingFailure_timingBytes he hsrc hslip hnominal hsoft hhard hstall
  have hparams := timingParams_timingBytes he hsrc hslip hnominal hsoft hhard hstall
  have hchecks := timingChecks_hold_iff (e := e) (src := src) (nominal := nominal) (soft := soft) (hard := hard)
    (stall := stall) hslip
  refine ⟨fun h => ?_, fun h => ?_⟩
  · rw [hexec, timingSet, if_pos (hbusy.mpr h), answerOf_mk]
  have hidle : ¬ s.calibratingHead.isSome = true := fun hc => (hbusy.mp hc).elim h
  refine ⟨fun n hbad hfirst => ?_, fun hgood => ?_⟩
  · have hfirst := firstFailure_at_first_bad hchecks
      (by rw [timingChecks_positions]; decide) (position_of_timingBad hbad) hbad hfirst
    rw [hexec, timingSet, if_neg hidle, hfailure, hfirst]
    rfl
  · have hnone := (firstFailure_eq_none (timingChecks e src slip nominal soft hard stall)).mpr
      (fun c hc => (hchecks c hc).mpr (hgood c.2))
    have hsrc2 : src ≤ 2 := Nat.le_of_not_lt (hgood 2)
    have hauto : (2 ≤ src) ↔ src = 2 := by omega
    rw [hexec, timingSet, if_neg hidle, hfailure, hnone, hparams, setTiming_timingOf]
    simp only [hauto]
    rfl

end Sys2Proof.Machine
end

section
/-! Forward counts, index pulses, reverse counts, stalls and FEED_FAULT (O24, O25). -/

namespace Sys2Proof.Machine

open Sys2Proof.Claims

/-! ## Forward counts and index pulses -/

theorem exec_forwardCount (time : Nat) (s : State) (hr : s.inReset = false) :
    exec (.forwardCount time) s = .next (s.forwardCount time).arbitrate :=
  serve_live _ s hr

theorem exec_indexPulse (time : Nat) (s : State) (hr : s.inReset = false) :
    exec (.indexPulse time) s = .next (s.indexPulse time).arbitrate :=
  serve_live _ s hr

section Settings

variable {s : State} {t : TimingSettings} (time : Nat)

theorem State.forwardCount_ignored (hnone : s.ctu.settings = none) : s.forwardCount time = s := by
  simp only [State.forwardCount, hnone]

theorem State.indexPulse_ignored (hnone : s.ctu.settings = none) : s.indexPulse time = s := by
  simp only [State.indexPulse, hnone]

theorem State.reverseCount_ignored (hnone : s.ctu.settings = none) : s.reverseCount = s := by
  simp only [State.reverseCount, hnone]

theorem State.forwardCount_line (ht : s.ctu.settings = some t) (hr : s.ctu.resolved = some .line) :
    s.forwardCount time = s.lineCount t := by
  simp only [State.forwardCount, ht, hr]

theorem State.forwardCount_count (ht : s.ctu.settings = some t) (hr : s.ctu.resolved = some .count) :
    s.forwardCount time = s.countCount t time := by
  simp only [State.forwardCount, ht, hr]

theorem State.forwardCount_auto (ht : s.ctu.settings = some t) (hr : s.ctu.resolved = none) :
    s.forwardCount time = s.autoStep t time := by
  simp only [State.forwardCount, ht, hr]

theorem State.indexPulse_line (ht : s.ctu.settings = some t) (hr : s.ctu.resolved = some .line) :
    s.indexPulse time = s.linePulse t time := by
  simp only [State.indexPulse, ht, hr]

theorem State.indexPulse_count (hr : s.ctu.resolved = some .count) : s.indexPulse time = s := by
  unfold State.indexPulse
  split
  · rfl
  · simp only [hr]

theorem State.indexPulse_auto (ht : s.ctu.settings = some t) (hr : s.ctu.resolved = none) :
    s.indexPulse time = s.resolvingPulse t time := by
  simp only [State.indexPulse, ht, hr]

end Settings

theorem forwardCountActsByResolvedSource : ForwardCountActsByResolvedSource := by
  intro time s hr
  rw [exec_forwardCount time s hr]
  refine ⟨fun hnone => by rw [State.forwardCount_ignored time hnone], ?_⟩
  intro t ht angle counted
  have hnext : nextAngle t s.ctu.angle = angle := rfl
  refine ⟨fun hline => ?_, fun hcount hangle => ?_, fun hcount hangle => ?_, fun hauto hnot => ?_,
    fun hauto hlast => ?_⟩
  · rw [State.forwardCount_line time ht hline]
    rfl
  · rw [State.forwardCount_count time ht hcount, State.countCount, hnext, if_neg hangle]
    rfl
  · rw [State.forwardCount_count time ht hcount, State.countCount, hnext, if_pos hangle]
  · rw [State.forwardCount_auto time ht hauto, State.autoStep, if_neg hnot]
    rfl
  · rw [State.forwardCount_auto time ht hauto, State.autoStep, if_pos hlast, hlast]
    rfl

theorem indexPulseIsBoundaryUnderLine : IndexPulseIsBoundaryUnderLine := by
  intro time s hr
  rw [exec_indexPulse time s hr]
  refine ⟨fun hnone => by rw [State.indexPulse_ignored time hnone], ?_⟩
  intro t ht
  refine ⟨fun hcount => ?_, fun hauto => ?_, fun hline hfree => ?_, fun hline haligned => ?_⟩
  · rw [State.indexPulse_count time hcount]
  · rw [State.indexPulse_auto time ht hauto, State.resolvingPulse]
  · rw [State.indexPulse_line time ht hline, State.linePulse, if_neg (Bool.eq_false_iff.mp hfree)]
  · rw [State.indexPulse_line time ht hline, State.linePulse, if_pos haligned, foldSlip]

/-- Settles O24, by the resolved source. -/
theorem countsAndPulsesActByResolvedSource : Obligations.CountsAndPulsesActByResolvedSource :=
  ⟨forwardCountActsByResolvedSource, indexPulseIsBoundaryUnderLine⟩

/-! ## Reverse counts, the stall and FEED_FAULT -/

/-- A cause of the Cylinder Timing Unit aborts a job that is RUNNING or STOPPING. -/
theorem State.abortIfCutting_eq (cause : StopCause) (s : State) :
    s.abortIfCutting cause =
      if s.job.state = .running ∨ s.job.state = .stopping then s.abortJob cause else s := by
  simp only [State.abortIfCutting, jobCutting_iff]

theorem reverseCountIsCountedAndAborts : ReverseCountIsCountedAndAborts := by
  intro s hr
  have hexec : exec .reverseCount s = .next s.reverseCount.arbitrate := serve_live _ s hr
  rw [hexec]
  refine ⟨fun hnone => by rw [State.reverseCount_ignored hnone], ?_⟩
  intro t ht noted
  unfold State.reverseCount
  split
  case h_1 hnone => cases ht.symm.trans hnone
  case h_2 =>
    rw [State.abortIfCutting_eq]
    rfl

theorem stallStopsTimingAndAborts : StallStopsTimingAndAborts := by
  intro t s hr ht hrunning noted
  have hexec : exec .stall s = .next s.stallExpiry.arbitrate := serve_live _ s hr
  rw [hexec]
  unfold State.stallExpiry
  split
  case h_1 hnone => cases ht.symm.trans hnone
  case h_2 u hu =>
    obtain rfl : t = u := Option.some.inj (ht.symm.trans hu)
    rw [if_pos hrunning, State.abortIfCutting_eq]
    rfl

theorem feedFaultAbortsCuttingJob : FeedFaultAbortsCuttingJob := by
  intro level s hr taken
  have hexec : exec (.feedFault level) s = .next taken.actFeedFault.arbitrate := serve_live _ taken hr
  rw [hexec]
  cases level with
  | false => rfl
  | true =>
    have hact : taken.actFeedFault = taken.abortIfCutting .feedFault := rfl
    simp only [hact, State.abortIfCutting_eq, true_and]
    rfl

/-- Settles O25, one part for each of the three events. -/
theorem reverseStallAndFeedFaultAbortJob : Obligations.ReverseStallAndFeedFaultAbortJob :=
  ⟨reverseCountIsCountedAndAborts, stallStopsTimingAndAborts, feedFaultAbortsCuttingJob⟩

end Sys2Proof.Machine
end

section
/-! The revolution boundary (O26). -/

namespace Sys2Proof.Machine

open Sys2Proof.Claims

/-! ## Slip and period -/

theorem State.noteSlip_eq (t : TimingSettings) (slip : Int) (s : State) :
    s.noteSlip t slip = slipNoted t.slipTolerance (some slip) s := by
  simp only [State.noteSlip, slipNoted, beyond, decide_eq_true_eq]

theorem speedDeviation_eq (nominal period : Nat) : speedDeviation nominal period = deviationOf nominal period := by
  have hdiff : max period nominal - min period nominal = ((period : Int) - (nominal : Int)).natAbs := by omega
  rw [speedDeviation, deviationOf, hdiff]

/-- The period, the stall timer and the alignment of a boundary are step 2 of R35. -/
theorem State.measurePeriod_eq (t : TimingSettings) (time : Nat) (s : State) :
    State.measurePeriod t time { s with ctu := { s.ctu with aligned := true } } = periodNoted t time s := by
  unfold State.measurePeriod periodNoted
  cases s.ctu.reference with
  | none => rfl
  | some r => simp only [State.noteSpeed, speedDeviation_eq, Config.maxPeriod]

theorem slipNoted_ctu (tolerance : Nat) (slip : Option Int) (s : State) :
    (slipNoted tolerance slip s).ctu = s.ctu := by
  unfold slipNoted
  split
  · rfl
  · dsimp only
    split <;> split <;> rfl

theorem periodNoted_ctu_first (t : TimingSettings) (time : Nat) (s : State) (hr : s.ctu.reference = none) :
    (periodNoted t time s).ctu =
      { s.ctu with aligned := true, periodValid := false, reference := some time, stallRunning := true } := by
  unfold periodNoted
  split
  · rfl
  · cases hr.symm.trans ‹_›

theorem periodNoted_ctu_next (t : TimingSettings) (time r : Nat) (s : State) (hr : s.ctu.reference = some r) :
    (periodNoted t time s).ctu =
      { s.ctu with
        aligned := true, period := min 16777215 (time - r), periodValid := true, reference := some time
        stallRunning := true } := by
  unfold periodNoted
  split
  · cases hr.symm.trans ‹_›
  · rename_i u hu
    obtain rfl : r = u := Option.some.inj (hr.symm.trans hu)
    dsimp only
    split <;> rfl

/-- The timing supervision of a boundary leaves the heads and the job. -/
theorem timing_frame (t : TimingSettings) (time : Nat) (slip : Option Int) (s : State) :
    let u := periodNoted t time (slipNoted t.slipTolerance slip s)
    u.job = s.job ∧ u.channels = s.channels ∧ u.cals = s.cals := by
  have hslip : ∀ u, slipNoted t.slipTolerance slip s = u →
      u.job = s.job ∧ u.channels = s.channels ∧ u.cals = s.cals := by
    rintro u rfl
    cases slip with
    | none => exact ⟨rfl, rfl, rfl⟩
    | some x => simp [← State.noteSlip_eq]
  simpa [← State.measurePeriod_eq] using hslip _ rfl

/-! ## The boundary as R35 says it -/

/-- Whether a slip was measured beyond the tolerance (R33). -/
def slipped (t : TimingSettings) (slip : Option Int) : Bool := slip.any (fun x => decide (t.slipTolerance < x.natAbs))

theorem served_eq (t : TimingSettings) (time : Nat) (slip : Option Int) (s : State) :
    served t time slip s =
      (periodNoted t time (slipNoted t.slipTolerance slip s)).boundaryBlocks (slipped t slip) := by
  rw [served, State.boundaryBlocks, slipped]
  simp only [forHeads_eq_foldl]

/-- What follows the retirements of a boundary: the abort of a slip beyond the tolerance, or the decision. -/
theorem State.boundary_eq (t : TimingSettings) (time : Nat) (slip : Option Int) (s : State) :
    s.boundary t time slip =
      if slipped t slip && jobCutting (served t time slip s).job.state then
        (served t time slip s).abortJob .encoderSlip
      else (served t time slip s).decideRevolution := by
  rw [served_eq]
  cases slip with
  | none =>
    have hnoted : slipNoted t.slipTolerance none s = s := rfl
    have hslipped : slipped t none = false := rfl
    rw [hnoted, hslipped, ← State.measurePeriod_eq]
    unfold State.boundary
    dsimp only
  | some x =>
    have hnoted : slipNoted t.slipTolerance (some x) s = s.noteSlip t x := (s.noteSlip_eq t x).symm
    have hslipped : slipped t (some x) = beyond t.slipTolerance x := rfl
    rw [hnoted, hslipped, ← State.measurePeriod_eq]
    unfold State.boundary
    dsimp only

theorem State.boundary_eq_of_slipped (t : TimingSettings) (time : Nat) (slip : Option Int) (s : State)
    (hslip : slipped t slip = true) :
    s.boundary t time slip =
      if jobCutting (served t time slip s).job.state then (served t time slip s).abortJob .encoderSlip
      else (served t time slip s).decideRevolution := by
  rw [State.boundary_eq, hslip, Bool.true_and]

theorem State.boundary_eq_of_not_slipped (t : TimingSettings) (time : Nat) (slip : Option Int) (s : State)
    (hslip : slipped t slip = false) :
    s.boundary t time slip = (served t time slip s).decideRevolution := by
  rw [State.boundary_eq, hslip, Bool.false_and, if_neg Bool.false_ne_true]

theorem State.decideRevolution_of_not_running (s : State) (h : s.job.state ≠ .running) : s.decideRevolution = s := by
  simp [State.decideRevolution, h]

/-! ## A boundary outside cutting -/

theorem State.failAllCals_idle (cause : CalCause) (s : State) (h : ∀ k, s.calibrating k = false) :
    s.failAllCals cause = s :=
  forHeads_idle (fun k => by rw [if_neg (Bool.eq_false_iff.mp (h k))])

theorem State.calBoundary_idle (h : Head) (s : State) (hidle : s.calibrating h = false) : s.calBoundary h = s := by
  unfold State.calibrating at hidle
  unfold State.calBoundary
  cases hphase : (s.cals.get h).phase with
  | none => rfl
  | waitIndex u | cut u | awaitMeasure u => cases hphase ▸ hidle

theorem State.boundaryBlocks_idle (b : Bool) (s : State) (hcutting : ∀ h : Head, s.channelState h ≠ .cutting)
    (hidle : ∀ h : Head, s.calibrating h = false) (hstop : s.job.state ≠ .stopping) : s.boundaryBlocks b = s := by
  have hcals : (if b = true then s.failAllCals .encoderSlip else forHeads State.calBoundary s) = s := by
    split
    · exact s.failAllCals_idle _ hidle
    · exact forHeads_idle (fun h => s.calBoundary_idle h (hidle h))
  have hretire : forHeads State.retireHead s = s :=
    forHeads_idle (fun h => by rw [State.retireHead, if_neg (hcutting h)])
  have hleave : forHeads State.stopHead s = s := forHeads_idle (fun h => by simp [State.stopHead, hstop])
  rw [State.boundaryBlocks, hcals, hretire, hleave]

theorem boundaryOutsideCuttingServesTiming : BoundaryOutsideCuttingServesTiming := by
  intro t time slip s hcutting hidle hrun hstop
  obtain ⟨hjob, hchannels, hcals⟩ := timing_frame t time slip s
  have hserved : served t time slip s = periodNoted t time (slipNoted t.slipTolerance slip s) := by
    rw [served_eq]
    refine State.boundaryBlocks_idle _ _ (fun h => ?_) (fun h => ?_) (hjob ▸ hstop)
    · rw [State.channelState, hchannels]
      exact hcutting h
    · rw [State.calibrating, hcals]
      exact hidle h
  have hquiet : jobCutting s.job.state = false := by
    rw [Bool.eq_false_iff, ne_eq, jobCutting_iff]
    exact not_or.mpr ⟨hrun, hstop⟩
  rw [State.boundary_eq, hserved, hjob, hquiet, Bool.and_false, if_neg Bool.false_ne_true,
    State.decideRevolution_of_not_running _ (hjob ▸ hrun)]

/-! ## What a boundary leaves of the timing -/

/-- The Cylinder Timing Unit but for FEED_EN and the hold count. -/
def State.timing (s : State) : Ctu := { s.ctu with holdCount := 0, feedEn := false }

theorem State.timing_congr {s t : State} (h : t.ctu = s.ctu) : t.timing = s.timing := by
  rw [State.timing, State.timing, h]

/-- FEED_EN, the hold count and the counters are no part of the timing. -/
theorem State.timing_feed (s : State) (feedEn : Bool) (count : Nat) (r : Rpt) :
    State.timing { s with ctu := { s.ctu with feedEn := feedEn, holdCount := count }, rpt := r } = s.timing := rfl

@[simp] theorem State.post_timing (e : Event) (s : State) : (s.post e).timing = s.timing := rfl

@[simp] theorem State.leaveJob_timing (h : Head) (st : ChannelState) (cause : StopCause) (s : State) :
    (s.leaveJob h st cause).timing = s.timing := by
  simp [State.timing, State.leaveJob]

@[simp] theorem State.abortJob_timing (cause : StopCause) (s : State) : (s.abortJob cause).timing = s.timing := by
  cases hlive : jobLive s.job.state with
  | false => rw [s.abortJob_of_not_live cause hlive]
  | true => rw [State.timing, s.abortJob_ctu cause hlive, State.timing]

@[simp] theorem State.finishHead_timing (h : Head) (s : State) : (s.finishHead h).timing = s.timing := by
  simp [State.timing, State.finishHead]

@[simp] theorem State.retireHead_timing (h : Head) (s : State) : (s.retireHead h).timing = s.timing := by
  have htrack : ∀ r, (s.retireTrack h r).timing = s.timing := fun r => State.timing_congr (by simp)
  unfold State.retireHead
  split
  · split
    · dsimp only
      split
      · rw [State.finishHead_timing, htrack]
      · split
        · rw [State.leaveJob_timing, htrack]
        · exact htrack _
    · rfl
  · rfl

@[simp] theorem State.stopHead_timing (h : Head) (s : State) : (s.stopHead h).timing = s.timing := by
  unfold State.stopHead
  split <;> simp

@[simp] theorem State.boundaryBlocks_timing (b : Bool) (s : State) : (s.boundaryBlocks b).timing = s.timing := by
  unfold State.boundaryBlocks
  rw [forHeads_view State.timing _ (fun h s => s.stopHead_timing h),
    forHeads_view State.timing _ (fun h s => s.retireHead_timing h)]
  split
  · exact State.timing_congr (by simp)
  · exact forHeads_view State.timing _ (fun h s => State.timing_congr (by simp)) s

@[simp] theorem State.shedAll_timing (o : ShedOccasion) (b n : Nat) (xs : List Shed) (s : State) :
    (s.shedAll o b n xs).timing = s.timing :=
  forHeads_view State.timing _ (fun h s => by split <;> simp [State.shedHead]) s

@[simp] theorem State.go_timing (s : State) : s.go.timing = s.timing := by
  have hstart : ∀ (d : Head → Nat) (u : State), (u.startAll d).timing = u.timing :=
    fun d u => State.timing_congr (by simp)
  unfold State.go
  dsimp only
  rw [State.timing_feed, hstart, State.shedAll_timing]

@[simp] theorem State.hold_timing (s : State) : s.hold.timing = s.timing := by
  have hwait := (forHeads_view State.timing State.waitHead (fun h s => State.timing_congr (by simp)) _).trans
    (s.timing_feed false s.ctu.holdCount s.rpt)
  unfold State.hold
  dsimp only
  split
  · rw [State.abortJob_timing, State.timing_feed, State.post_timing, hwait]
  · rw [State.timing_feed, State.post_timing, hwait]

@[simp] theorem State.decideRevolution_timing (s : State) : s.decideRevolution.timing = s.timing := by
  unfold State.decideRevolution
  split
  · split <;> simp
  · rfl

/-- Beside FEED_EN and the hold count, a boundary leaves the timing as its supervision leaves it. -/
theorem State.boundary_timing (t : TimingSettings) (time : Nat) (slip : Option Int) (s : State) :
    (s.boundary t time slip).timing = (periodNoted t time (slipNoted t.slipTolerance slip s)).timing := by
  rw [State.boundary_eq]
  split <;> simp [served_eq]

theorem boundaryMeasuresPeriod : BoundaryMeasuresPeriod := by
  intro t time slip s c
  have htiming : { c with holdCount := 0, feedEn := false } =
      (periodNoted t time (slipNoted t.slipTolerance slip s)).timing := s.boundary_timing t time slip
  have hslip := slipNoted_ctu t.slipTolerance slip s
  cases hr : s.ctu.reference with
  | none =>
    rw [State.timing, periodNoted_ctu_first t time _ (by rw [hslip, hr]), hslip] at htiming
    injection htiming with hsettings hresolved hauto hangle haligned hperiod hvalid href hstall
    exact ⟨haligned, href, hstall, hsettings, hangle, hresolved, hauto, fun _ => ⟨hvalid, hperiod⟩, nofun⟩
  | some r =>
    rw [State.timing, periodNoted_ctu_next t time r _ (by rw [hslip, hr]), hslip] at htiming
    injection htiming with hsettings hresolved hauto hangle haligned hperiod hvalid href hstall
    refine ⟨haligned, href, hstall, hsettings, hangle, hresolved, hauto, nofun, ?_⟩
    rintro _ ⟨⟩
    exact ⟨hvalid, hperiod⟩

/-! ## A slip beyond the tolerance -/

/-- After a slip beyond the tolerance no calibration is in progress. -/
theorem served_calibrating (t : TimingSettings) (time : Nat) (slip : Option Int) (s : State)
    (hslip : slipped t slip = true) (h : Head) : (served t time slip s).calibrating h = false := by
  have hstop := forHeads_view State.cals State.stopHead (fun h s => by simp)
  have hretire := forHeads_view State.cals State.retireHead (fun h s => by simp)
  rw [served_eq, State.boundaryBlocks, if_pos hslip, State.calibrating, hstop, hretire]
  exact State.failAllCals_calibrating _ _ h

/-- What the abort in place of a decision leaves of a boundary without a calibration in progress. -/
theorem State.abort_in_place_of_decision (r : State) (hidle : ∀ h : Head, r.calibrating h = false) :
    let u := if jobCutting r.job.state then r.abortJob .encoderSlip else r.decideRevolution
    (r.job.state = .running ∨ r.job.state = .stopping →
      u = r.abortJob .encoderSlip ∧ u.job.state = .aborted ∧ u.job.abortCause = some .encoderSlip) ∧
    (r.job.state ≠ .running → r.job.state ≠ .stopping → u = r) ∧
    ∀ h : Head, u.calibrating h = false := by
  dsimp only
  refine ⟨fun hjob => ?_, fun hrun hstop => ?_, fun h => ?_⟩
  · have hended := r.abortJob_job .encoderSlip ((jobLive_iff _).mpr (Or.inr hjob))
    rw [if_pos ((jobCutting_iff _).mpr hjob), hended]
    exact ⟨rfl, rfl, rfl⟩
  · rw [if_neg (fun hc => ((jobCutting_iff _).mp hc).elim hrun hstop)]
    exact r.decideRevolution_of_not_running hrun
  · rw [← hidle h, State.calibrating, State.calibrating]
    split <;> simp

theorem slipBeyondToleranceEndsJobAndCalibrations : SlipBeyondToleranceEndsJobAndCalibrations := by
  intro t time slip s hbeyond
  have hslip : slipped t (some slip) = true := decide_eq_true hbeyond
  rw [s.boundary_eq_of_slipped t time (some slip) hslip]
  exact State.abort_in_place_of_decision _ (served_calibrating t time (some slip) s hslip)

/-- Settles O26: a boundary is its timing supervision, the retirements, and an abort or a decision. -/
theorem boundaryServesTimingAndSlip : Obligations.BoundaryServesTimingAndSlip :=
  ⟨boundaryOutsideCuttingServesTiming, boundaryMeasuresPeriod, slipBeyondToleranceEndsJobAndCalibrations⟩

end Sys2Proof.Machine
end

section
/-! The revolution decision (O27). -/

namespace Sys2Proof.Machine

open Sys2Proof.Claims

/-! ## GO or HOLD -/

theorem Queue.ready_isSome_iff (q : Queue) :
    q.ready.isSome = true ↔ ∃ r rest m, q.records = r :: rest ∧ r.state = .complete m := by
  refine ⟨fun h => ?_, fun ⟨r, rest, m, hq, hr⟩ => ?_⟩
  · obtain ⟨r, hr⟩ := Option.isSome_iff_exists.mp h
    obtain ⟨rest, hq, hc⟩ := q.ready_complete r hr
    unfold TrackRecord.isComplete at hc
    split at hc
    case h_2 m hm => exact ⟨r, rest, m, hq, hm⟩
    all_goals cases hc
  · simp [Queue.ready, hq, TrackRecord.isComplete, hr]

theorem noHead_iff (p : HeadSet) : noHead p = true ↔ ∀ h : Head, p.get h = false := by
  simp only [noHead, Bool.not_eq_true', Bool.or_eq_false_iff]
  exact ⟨fun ⟨⟨⟨h0, h1⟩, h2⟩, h3⟩ => forall_head (p.get · = false) h0 h1 h2 h3, fun h => ⟨⟨⟨h 0, h 1⟩, h 2⟩, h 3⟩⟩

/-- No active head lacks a COMPLETE record at its queue head. -/
theorem State.noHead_lacking_iff (s : State) :
    noHead s.lacking = true ↔ ∀ h : Head, s.active h = true → (s.queues.get h).ready.isSome = true := by
  rw [noHead_iff]
  refine forall_congr' fun h => ?_
  rw [State.lacking, PerHead.get_ofFn]
  cases s.active h <;> cases (s.queues.get h).ready <;> simp

theorem State.withinHard_iff (s : State) :
    s.withinHard = true ↔ ∃ t, s.ctu.settings = some t ∧ s.ctu.periodValid = true ∧
      deviationOf t.nominalPeriod s.ctu.period ≤ t.hardWindow := by
  unfold State.withinHard
  split
  · rename_i t ht
    simp [ht, speedDeviation_eq]
  · rename_i hnone
    simp [hnone]

theorem grantNeedsTracksAndSpeed : GrantNeedsTracksAndSpeed := by
  intro s
  rw [State.granted, Bool.and_eq_true, s.noHead_lacking_iff, s.withinHard_iff]
  simp only [Queue.ready_isSome_iff]

/-- A granted decision finds a COMPLETE record at the queue head of every active channel. -/
theorem State.ready_of_granted {s : State} (hg : s.granted = true) {h : Head} (ha : s.active h = true) :
    ∃ r, (s.queues.get h).ready = some r := by
  rw [State.granted, Bool.and_eq_true, s.noHead_lacking_iff] at hg
  exact Option.isSome_iff_exists.mp (hg.1 h ha)

/-! ## The place of the decision -/

theorem slipped_eq_false (t : TimingSettings) (slip : Option Int)
    (h : ∀ x, slip = some x → x.natAbs ≤ t.slipTolerance) :
    slipped t slip = false := by
  cases slip with
  | none => rfl
  | some x => exact decide_eq_false (Nat.not_lt.mpr (h x rfl))

theorem decisionFollowsRetirements : DecisionFollowsRetirements := by
  refine ⟨fun t time slip s hslip => s.boundary_eq_of_not_slipped t time slip (slipped_eq_false t slip hslip),
    fun s => ⟨fun hrun ha hg => ?_, fun hrun ha hg => ?_, s.decideRevolution_of_not_running, fun hidle => ?_⟩⟩
  · simp [State.decideRevolution, hrun, ha, hg]
  · simp [State.decideRevolution, hrun, ha, hg]
  · simp [State.decideRevolution, hidle]

/-! ## HOLD -/

/-- The channel of a head after a HOLD (R41). -/
def Channel.wait (c : Channel) : Channel := if c.state = .primed ∨ c.state = .cutting then c.enter .waiting else c

theorem State.waitHead_eq (h : Head) (s : State) : s.waitHead h = s.updChannel h Channel.wait := by
  unfold State.waitHead State.updChannel Channel.wait State.channelState
  split
  · rfl
  · rw [PerHead.set_get_self]

theorem State.waitHeads_eq (s : State) :
    forHeads State.waitHead s = { s with channels := s.channels.mapIdx (fun _ => Channel.wait) } := by
  rw [forHeads_congr State.waitHead_eq]
  exact forHeads_updChannel _ s

theorem holdWaitsOrAbortsAtLimit : HoldWaitsOrAbortsAtLimit := by
  intro s r hr lacking data count waiting counted
  have hlimit : s.holdLimit = r.holdLimit := by rw [State.holdLimit, hr]
  have hlacking : s.lacking = lacking := rfl
  have hdata : (!noHead lacking) = data := by
    rw [noHead, Bool.not_not]
  unfold State.hold
  simp only [hlimit, hlacking, hdata, State.waitHeads_eq, decide_eq_true_eq]
  rfl

/-- Settles O27. -/
theorem decisionGrantsOrHolds : Obligations.DecisionGrantsOrHolds :=
  ⟨grantNeedsTracksAndSpeed, decisionFollowsRetirements, holdWaitsOrAbortsAtLimit⟩

end Sys2Proof.Machine
end

section
/-! The sheds and the track starts of a GO (O28). -/

namespace Sys2Proof.Machine

open Sys2Proof.Claims

/-! ## The heads of a shedding result -/

theorem mem_insertHead (priority : Head → Nat) (a x : Head) (heads : List Head) :
    x ∈ insertHead priority a heads ↔ x = a ∨ x ∈ heads := by
  induction heads with
  | nil => exact List.mem_cons
  | cons b rest ih =>
    unfold insertHead
    split
    · exact List.mem_cons
    · rw [List.mem_cons, ih, List.mem_cons, or_left_comm]

theorem mem_removalOrder (priority : Head → Nat) (members : Head → Bool) (h : Head) :
    h ∈ removalOrder priority members ↔ members h = true := by
  have hfold : ∀ heads : List Head, h ∈ heads.foldr (insertHead priority) [] ↔ h ∈ heads := by
    intro heads
    induction heads with
    | nil => rfl
    | cons a rest ih => rw [List.foldr_cons, mem_insertHead, ih, List.mem_cons]
  rw [removalOrder, hfold, List.mem_filter]
  exact and_iff_right (mem_allHeads h)

/-- Only heads not yet removed are removed. -/
theorem head_mem_of_mem_shedWalk {demand : Head → Nat} {budget : Nat} {x : Shed} {heads : List Head} :
    ∀ {sum rank : Nat}, x ∈ shedWalk demand budget sum rank heads → x.head ∈ heads := by
  induction heads with
  | nil => nofun
  | cons h rest ih =>
    intro sum rank hx
    unfold shedWalk at hx
    split at hx
    · cases hx
    · rcases List.mem_cons.mp hx with rfl | hx
      · exact List.mem_cons_self
      · exact List.mem_cons_of_mem h (ih hx)

theorem shedOf_head {sheds : List Shed} {h : Head} {x : Shed} (hx : shedOf sheds h = some x) : x.head = h :=
  eq_of_beq (List.find?_some (p := fun x : Shed => x.head == h) hx)

/-- A removed head is one of the set the shedding order is applied to. -/
theorem member_of_isShed {priority demand : Head → Nat} {members : Head → Bool} {budget : Nat} {h : Head}
    (hs : isShed (shedOrder priority demand members budget) h = true) : members h = true := by
  obtain ⟨x, hx⟩ := Option.isSome_iff_exists.mp hs
  have hmem := head_mem_of_mem_shedWalk (List.mem_of_find?_eq_some hx)
  rwa [shedOf_head hx, mem_removalOrder] at hmem

/-- Nothing is removed from a set whose demands fit. -/
theorem shedOrder_of_fits {priority demand : Head → Nat} {members : Head → Bool} {budget : Nat}
    (hfits : sumDemands demand (allHeads.filter members) ≤ budget) :
    shedOrder priority demand members budget = [] := by
  unfold shedOrder
  cases removalOrder priority members with
  | nil => rfl
  | cons h rest => exact if_pos hfits

/-! ## Sheds -/

/-- A head's channel, queue and demand. -/
def State.seat (h : Head) (s : State) : Channel × Queue × Nat :=
  (s.channels.get h, s.queues.get h, s.dbu.demand.get h)

theorem State.active_of_seat {s : State} {h : Head} {v : Channel × Queue × Nat} (hv : s.seat h = v) :
    s.active h = activeState v.1.state := by
  rw [← hv]
  rfl

/-- A head's channel, queue and demand after it has been parked by a shed (R116, R164). -/
def shedSeat (v : Channel × Queue × Nat) : Channel × Queue × Nat :=
  (v.1.leave .parked .budgetShed, v.2.1.emptied, 0)

/-- A shed as R164 says it. -/
theorem State.shedHead_eq (o : ShedOccasion) (budget before : Nat) (x : Shed) (s : State) :
    s.shedHead o budget before x =
      jobClosed (left x.head .parked .budgetShed
        (s.post (.shed x.head (s.priority x.head) x.demand o s.dbu.bank budget before x.rank x.left))) :=
  State.leaveJob_eq _ _ _ _ rfl

/-- A head's part in the sheds of a result. -/
def State.shedIfRemoved (o : ShedOccasion) (budget before : Nat) (sheds : List Shed) (h : Head) (s : State) : State :=
  match shedOf sheds h with
  | some x => s.shedHead o budget before x
  | none => s

theorem State.shedAll_eq_forHeads (o : ShedOccasion) (budget before : Nat) (sheds : List Shed) (s : State) :
    s.shedAll o budget before sheds = forHeads (State.shedIfRemoved o budget before sheds) s := rfl

theorem State.shedAll_eq (o : ShedOccasion) (budget before : Nat) (sheds : List Shed) (s : State) :
    s.shedAll o budget before sheds = shedsTaken o budget before sheds s := by
  rw [State.shedAll_eq_forHeads, forHeads_eq_foldl, shedsTaken]
  refine congrArg (allHeads.foldl · s) (funext fun u => funext fun h => ?_)
  unfold State.shedIfRemoved
  cases hx : shedOf sheds h with
  | none =>
    have hfind : sheds.find? (fun x => x.head == h) = none := hx
    simp only [hfind]
  | some x =>
    have hfind : sheds.find? (fun x => x.head == h) = some x := hx
    obtain rfl := shedOf_head hx
    simp only [hfind, State.shedHead_eq]

theorem State.shedAll_nil (o : ShedOccasion) (budget before : Nat) (s : State) :
    s.shedAll o budget before [] = s := rfl

theorem State.shedHead_seat (o : ShedOccasion) (budget before : Nat) (x : Shed) (k : Head) (s : State) :
    State.seat k (s.shedHead o budget before x) = if k = x.head then shedSeat (s.seat k) else s.seat k := by
  simp only [State.seat, State.shedHead, State.leaveJob_channels, State.leaveJob_queues, State.leaveJob_dbu,
    PerHead.get_set, State.post_channels, State.post_queues, State.post_dbu]
  split
  · rename_i hk
    rw [hk]
    rfl
  · rfl

theorem State.shedIfRemoved_seat (o : ShedOccasion) (budget before : Nat) (sheds : List Shed) (h k : Head)
    (s : State) :
    State.seat k (s.shedIfRemoved o budget before sheds h) =
      if k = h ∧ isShed sheds h = true then shedSeat (s.seat k) else s.seat k := by
  unfold State.shedIfRemoved
  cases hx : shedOf sheds h with
  | none => simp [isShed, hx]
  | some x => simp [isShed, hx, State.shedHead_seat, shedOf_head hx]

/-- The sheds park the removed heads and leave the channel, the queue and the demand of every other one. -/
theorem State.shedAll_seat (o : ShedOccasion) (budget before : Nat) (sheds : List Shed) (s : State) (h : Head) :
    State.seat h (s.shedAll o budget before sheds) =
      if isShed sheds h then shedSeat (s.seat h) else s.seat h := by
  rw [State.shedAll_eq_forHeads, forHeads_view_of_own State.seat _ (fun g k u hk => ?_) (fun g u w huw => ?_)]
  · simp only [State.shedIfRemoved_seat, true_and]
  · rw [State.shedIfRemoved_seat, if_neg (fun hc => hk hc.1)]
  · rw [State.shedIfRemoved_seat, State.shedIfRemoved_seat, huw]

/-! ## Track starts -/

/-- What the start of a track reads and writes at a head, with E and the shift mode (R63, R73). -/
structure StartView where
  channel : Channel
  queue : Queue
  monitor : Monitor
  demand : Nat
  counts : Nat
  half : Bool

/-- The view of a head at a track start. -/
def State.startView (h : Head) (s : State) : StartView :=
  ⟨s.channels.get h, s.queues.get h, s.monitors.get h, s.dbu.demand.get h, s.counts, s.jobHalf⟩

/-- The view of an active head after the start of its queue-head track; an inactive one stays. -/
def StartView.start (demand : Nat) (v : StartView) : StartView :=
  if activeState v.channel.state then
    match v.queue.ready with
    | some r =>
      { v with
        channel := { v.channel.enter .cutting with
          cellIndex := 0, accumulator := trackStart v.counts v.half r.number }
        queue := v.queue.updHead TrackRecord.begin
        monitor := v.monitor.clearRuns
        demand := demand }
    | none => v
  else v

theorem State.start_of_ready {s : State} {h : Head} {r : TrackRecord} (demand : Nat) (ha : s.active h = true)
    (hr : (s.queues.get h).ready = some r) :
    (s.startView h).start demand =
      { s.startView h with
        channel := { (s.channels.get h).enter .cutting with
          cellIndex := 0, accumulator := trackStart s.counts s.jobHalf r.number }
        queue := (s.queues.get h).updHead TrackRecord.begin
        monitor := (s.monitors.get h).clearRuns
        demand := demand } := by
  have hactive : activeState (s.channels.get h).state = true := ha
  simp only [StartView.start, State.startView, hactive, if_true, hr]

theorem State.start_of_inactive {s : State} {h : Head} (demand : Nat) (ha : s.active h = false) :
    (s.startView h).start demand = s.startView h :=
  if_neg (Bool.eq_false_iff.mp ha)

theorem State.startTrack_counts (h : Head) (n : Nat) (s : State) :
    (s.startTrack h n).counts = s.counts ∧ (s.startTrack h n).jobHalf = s.jobHalf := by
  simp [State.counts, State.jobHalf, State.screenEntries]

theorem State.startTrack_startView_other (h k : Head) (n : Nat) (s : State) (hk : k ≠ h) :
    State.startView k (s.startTrack h n) = s.startView k := by
  obtain ⟨hcounts, hhalf⟩ := s.startTrack_counts h n
  rw [State.startView, State.startView, hcounts, hhalf]
  unfold State.startTrack
  split <;> simp [PerHead.get_set_other _ _ _ _ hk]

theorem State.startTrack_startView (h : Head) (n : Nat) (s : State) (ha : s.active h = true) :
    State.startView h (s.startTrack h n) = (s.startView h).start n := by
  obtain ⟨hcounts, hhalf⟩ := s.startTrack_counts h n
  have hactive : activeState (s.startView h).channel.state = true := ha
  rw [State.startView, hcounts, hhalf, StartView.start, if_pos hactive]
  unfold State.startTrack
  cases hr : (s.queues.get h).ready with
  | none => simp [State.startView, hr]
  | some r => simp [State.startView, hr]

theorem State.startAll_startView (d : Head → Nat) (s : State) (h : Head) :
    State.startView h (s.startAll d) = (s.startView h).start (d h) := by
  have hown : ∀ (k : Head) (u : State),
      State.startView k (if u.active k then u.startTrack k (d k) else u) = (u.startView k).start (d k) := by
    intro k u
    split
    · exact u.startTrack_startView k (d k) ‹_›
    · exact (State.start_of_inactive _ (Bool.eq_false_iff.mpr ‹_›)).symm
  refine (forHeads_view_of_own State.startView _ (fun g k u hk => ?_) (fun k u w huw => ?_) s h).trans (hown h s)
  · split
    · exact u.startTrack_startView_other g k _ hk
    · rfl
  · rw [hown, hown, huw]

/-! ## The tracks started -/

theorem trackStart_eq (counts : Nat) (half : Bool) (number : Nat) :
    trackStart counts half number =
      counts / 4 + (if half = true ∧ number % 2 = 1 then counts / 2 else 0) := by
  simp [trackStart]

theorem tracksStarted_counts (u : State) : (tracksStarted u).counts = u.counts := rfl

theorem tracksStarted_jobHalf (u : State) : (tracksStarted u).jobHalf = u.jobHalf := rfl

section Started

variable {u : State} {h : Head}

/-- An inactive head at the track starts. -/
theorem tracksStarted_inactive (ha : u.active h = false) :
    State.startView h (tracksStarted u) = u.startView h := by
  rw [State.startView, tracksStarted_counts, tracksStarted_jobHalf, State.startView]
  simp only [tracksStarted, PerHead.get_mapIdx, ha, Bool.false_eq_true, if_false]

/-- An active head at the track starts. -/
theorem tracksStarted_active {r : TrackRecord} (ha : u.active h = true) (hr : (u.queues.get h).ready = some r) :
    State.startView h (tracksStarted u) = (u.startView h).start (trackDemand (u.headcal h) r.mean) := by
  obtain ⟨rest, hrec, -⟩ := Queue.ready_complete _ r hr
  have htrack : headTrack h u = some r := hr
  have hbegun : (u.queues.get h).updHead TrackRecord.begin =
      { u.queues.get h with records := r.begin :: rest } := by
    rw [Queue.updHead, hrec]
  rw [State.start_of_ready _ ha hr, State.startView, tracksStarted_counts, tracksStarted_jobHalf]
  simp only [State.startView, hbegun, tracksStarted, PerHead.get_mapIdx, ha, htrack, hrec, if_true, trackStart_eq]
  rfl

end Started

/-- After the starts of a state in which every active head is ready, the CUTTING channels are the active ones. -/
theorem State.startAll_anyCutting (d : Head → Nat) (u : State)
    (hready : ∀ h, u.active h = true → ∃ r, (u.queues.get h).ready = some r) :
    (u.startAll d).anyCutting = allHeads.any (fun h => u.active h) := by
  rw [State.anyCutting_eq]
  refine congrArg allHeads.any (funext fun h => ?_)
  have hview := congrArg (fun v => v.channel.state == .cutting) (u.startAll_startView d h)
  refine hview.trans ?_
  cases ha : u.active h with
  | true =>
    obtain ⟨r, hr⟩ := hready h ha
    rw [State.start_of_ready _ ha hr]
    rfl
  | false =>
    rw [State.start_of_inactive _ ha, beq_eq_false_iff_ne]
    intro hc
    have hc : u.channelState h = .cutting := hc
    rw [State.active, hc] at ha
    cases ha

theorem State.startAll_dbu (d : Head → Nat) (u : State) :
    (u.startAll d).dbu = { u.dbu with demand := (u.startAll d).dbu.demand } := by
  have hkept := forHeads_view (fun s : State => (s.dbu.bank, s.dbu.candidates))
    (fun h s => if s.active h then s.startTrack h (d h) else s)
    (fun h s => by
      unfold State.startTrack
      split
      · split <;> rfl
      · rfl) u
  injection hkept with hbank hcandidates
  exact congr (congrArg (Dbu.mk · (u.startAll d).dbu.demand) hbank) hcandidates

/-- The starts of a state in which every active head is ready are those of R40, FEED_EN among them. -/
theorem State.startAll_eq (d : Head → Nat) (u : State)
    (hready : ∀ h, u.active h = true →
      ∃ r, (u.queues.get h).ready = some r ∧ d h = trackDemand (u.headcal h) r.mean) :
    { u.startAll d with
      ctu := { (u.startAll d).ctu with feedEn := (u.startAll d).anyCutting, holdCount := 0 } } = tracksStarted u := by
  have hview : ∀ h, State.startView h (u.startAll d) = State.startView h (tracksStarted u) := by
    intro h
    rw [State.startAll_startView]
    cases ha : u.active h with
    | false =>
      rw [tracksStarted_inactive ha]
      exact State.start_of_inactive _ ha
    | true =>
      obtain ⟨r, hr, hd⟩ := hready h ha
      rw [tracksStarted_active ha hr, hd]
  have hchannels : (u.startAll d).channels = (tracksStarted u).channels :=
    PerHead.ext_get _ _ (fun h => congrArg StartView.channel (hview h))
  have hqueues : (u.startAll d).queues = (tracksStarted u).queues :=
    PerHead.ext_get _ _ (fun h => congrArg StartView.queue (hview h))
  have hmonitors : (u.startAll d).monitors = (tracksStarted u).monitors :=
    PerHead.ext_get _ _ (fun h => congrArg StartView.monitor (hview h))
  have hdemand : (u.startAll d).dbu.demand = (tracksStarted u).dbu.demand :=
    PerHead.ext_get _ _ (fun h => congrArg StartView.demand (hview h))
  have hdbu : (u.startAll d).dbu = (tracksStarted u).dbu := by
    rw [u.startAll_dbu d, hdemand]
    rfl
  have hfeed := u.startAll_anyCutting d (fun h ha => (hready h ha).imp fun r hr => hr.1)
  obtain ⟨hstore, hctu, hjob, hcals, hfli, hrpt, hlines, hchoices, hpending⟩ := u.startAll_frame d
  simp only [hstore, hctu, hjob, hcals, hfli, hrpt, hlines, hchoices, hpending, hchannels, hqueues, hmonitors, hdbu,
    hfeed]
  rfl

/-! ## GO -/

/-- A head that is active after the sheds of a GO was not shed, and its queue head is ready as before. -/
theorem State.shedAll_active (o : ShedOccasion) (budget before : Nat) (sheds : List Shed) (s : State) (h : Head)
    (ha : State.active h (s.shedAll o budget before sheds) = true) :
    s.active h = true ∧ State.seat h (s.shedAll o budget before sheds) = s.seat h := by
  have hseat := s.shedAll_seat o budget before sheds h
  cases hs : isShed sheds h with
  | true =>
    rw [hs, if_pos rfl] at hseat
    have hparked : State.channelState h (s.shedAll o budget before sheds) = .parked :=
      congrArg (fun v => v.1.state) hseat
    rw [State.active, hparked] at ha
    cases ha
  | false =>
    rw [hs, if_neg Bool.false_ne_true] at hseat
    have hstate : State.channelState h (s.shedAll o budget before sheds) = s.channelState h :=
      congrArg (fun v => v.1.state) hseat
    rw [State.active, hstate] at ha
    exact ⟨ha, hseat⟩

theorem State.headcal_shedAll (o : ShedOccasion) (budget before : Nat) (sheds : List Shed) (s : State) (h : Head) :
    State.headcal h (s.shedAll o budget before sheds) = s.headcal h := by
  simp [State.headcal]

/-- The state of a GO after its sheds (R162). -/
def State.goShed (s : State) : State :=
  s.shedAll .go (s.budgetOf s.dbu.bank)
    (sumDemands (fun h => s.nextDemand h) (allHeads.filter (fun h => s.active h))) s.goSheds

theorem State.nextDemand_of_ready {s : State} {h : Head} {r : TrackRecord} (hr : (s.queues.get h).ready = some r) :
    s.nextDemand h = trackDemand (s.headcal h) r.mean := by
  rw [State.nextDemand, hr]

/-- A channel active after the sheds of a granted GO is ready, and its demand is that of its queue-head track. -/
theorem State.goShed_ready {s : State} (hg : s.granted = true) {h : Head} (ha : s.goShed.active h = true) :
    ∃ r, (s.goShed.queues.get h).ready = some r ∧
      s.nextDemand h = trackDemand (s.goShed.headcal h) r.mean := by
  obtain ⟨hactive, hseat⟩ := s.shedAll_active _ _ _ _ h ha
  obtain ⟨r, hr⟩ := State.ready_of_granted hg hactive
  have hqueue : s.goShed.queues.get h = s.queues.get h := congrArg (fun v => v.2.1) hseat
  exact ⟨r, by rw [hqueue, hr], by rw [State.nextDemand_of_ready hr, State.goShed, State.headcal_shedAll]⟩

/-- A granted GO sheds, and then starts the tracks of the channels that stay active. -/
theorem State.go_eq (s : State) (hg : s.granted = true) : s.go = tracksStarted s.goShed := by
  rw [← State.startAll_eq (fun h => s.nextDemand h) s.goShed (fun _ ha => State.goShed_ready hg ha)]
  unfold State.go State.goShed
  rfl

theorem State.go_feedEn (s : State) : s.go.ctu.feedEn = s.go.anyCutting := by
  unfold State.go
  rfl

theorem goReportsShedsAndStartsTheRest : GoReportsShedsAndStartsTheRest := by
  intro s hg demand budget
  have hdemand : demand = fun h => s.nextDemand h := by
    funext h
    show demand h = s.nextDemand h
    unfold State.nextDemand
    cases hr : (s.queues.get h).ready with
    | none => simp only [demand, headTrack, hr]
    | some r => simp only [demand, headTrack, hr, trackDemand]
  clear_value demand
  subst hdemand
  rw [s.go_eq hg, State.goShed, State.shedAll_eq]
  rfl

theorem goWithinBudgetStartsEveryActiveChannel : GoWithinBudgetStartsEveryActiveChannel := by
  intro s hg hany hfits
  have hsheds : s.goSheds = [] := shedOrder_of_fits hfits
  have hfeed : allHeads.any (fun h => s.active h) = true := by
    obtain ⟨h, ha⟩ := s.anyActive_iff.mp hany
    exact List.any_eq_true.mpr ⟨h, mem_allHeads h, ha⟩
  rw [s.go_eq hg, State.goShed, hsheds, State.shedAll_nil, tracksStarted, hfeed]

theorem goShedsBeforeItStarts : GoShedsBeforeItStarts := by
  intro s hg sheds t
  have ht : t = tracksStarted s.goShed := s.go_eq hg
  have hseat : ∀ h, s.goShed.seat h = if isShed sheds h then shedSeat (s.seat h) else s.seat h :=
    s.shedAll_seat _ _ _ _
  have hstays : ∀ h, s.goShed.active h = false → t.seat h = s.goShed.seat h := fun h ha => by
    rw [ht]
    exact congrArg (fun v : StartView => (v.channel, v.queue, v.demand)) (tracksStarted_inactive ha)
  have hsame : ∀ h, isShed sheds h = false → s.goShed.seat h = s.seat h := fun h hs => by
    rw [hseat, hs, if_neg Bool.false_ne_true]
  refine ⟨fun h hs => ?_, fun h ha hs => ?_, fun h ha => ?_, rfl, s.go_feedEn⟩
  · have hparked : s.goShed.seat h = shedSeat (s.seat h) := by rw [hseat, hs, if_pos rfl]
    have hidle : s.goShed.active h = false := State.active_of_seat hparked
    injection (hstays h hidle).trans hparked with hchannel hrest
    injection hrest with hqueue hdemand
    rw [State.channelState, hchannel, hqueue, hdemand]
    exact ⟨rfl, rfl, rfl, rfl⟩
  · have hactive : s.goShed.active h = true := (State.active_of_seat (hsame h hs)).trans ha
    obtain ⟨r, hr, hd⟩ := State.goShed_ready hg hactive
    have hafter := tracksStarted_active hactive hr
    rw [State.start_of_ready _ hactive hr, ← hd, ← ht] at hafter
    injection hafter with hchannel _ _ hdemand
    rw [State.channelState, hchannel, hdemand]
    exact ⟨rfl, rfl⟩
  · have hs : isShed sheds h = false := by
      rw [Bool.eq_false_iff]
      intro hs
      cases ha.symm.trans (member_of_isShed hs)
    have hidle : s.goShed.active h = false := (State.active_of_seat (hsame h hs)).trans ha
    injection (hstays h hidle).trans (hsame h hs) with hchannel hrest
    injection hrest with hqueue
    exact ⟨hchannel, hqueue⟩

/-- Settles O28: a GO is its sheds and then the track starts, within the budget without a shed. -/
theorem goShedsThenStartsTracks : Obligations.GoShedsThenStartsTracks :=
  ⟨goWithinBudgetStartsEveryActiveChannel, goShedsBeforeItStarts, goReportsShedsAndStartsTheRest⟩

end Sys2Proof.Machine
end

section
/-! SUPPORT. What a forward count and the departure of a head read and write: one head's view of the part. -/

namespace Sys2Proof.Machine

open Sys2Proof.Claims

/-! ## A forward count at a head -/

theorem Queue.inProgress_isSome_iff (q : Queue) :
    q.inProgress.isSome = true ↔ ∃ r rest m s1 s2, q.records = r :: rest ∧ r.state = .cutting m s1 s2 := by
  refine ⟨fun h => ?_, fun ⟨r, rest, m, s1, s2, hq, hr⟩ => ?_⟩
  · obtain ⟨r, hr⟩ := Option.isSome_iff_exists.mp h
    obtain ⟨rest, hq, hc⟩ := q.inProgress_cutting r hr
    unfold TrackRecord.isCutting at hc
    split at hc
    case h_3 m s1 s2 hm => exact ⟨r, rest, m, s1, s2, hq, hm⟩
    all_goals cases hc
  · simp [Queue.inProgress, hq, TrackRecord.isCutting, hr]

/-- The cells of what a channel cuts, if it cuts. -/
def Cut.cells (jobCells : Nat) : Cut → Option Nat
  | .nothing => none
  | .track _ => some jobCells
  | .test u => some u.cells

theorem State.cutsCells_iff (h : Head) (c : Nat) (s : State) :
    cutsCells h c s ↔ (s.cutOf h).cells s.jobCells = some c := by
  unfold cutsCells State.cutOf
  rw [← Queue.inProgress_isSome_iff]
  cases s.channelState h with
  | cutting => cases (s.queues.get h).inProgress <;> simp [Cut.cells]
  | calibrating => cases (s.cals.get h).phase <;> simp [Cut.cells]
  | off | primed | waiting | done | parked | halted => simp [Cut.cells]

theorem Monitor.losesStroke_iff (m : Monitor) :
    m.losesStroke = true ↔
      16 ≤ m.history.length ∧ (∃ e, m.history.head? = some e ∧ e.matched = false) ∧ 64 ≤ m.missingRun + 1 := by
  have hmissing : (missingEntry m.history).isSome = true ↔
      16 ≤ m.history.length ∧ ∃ e, m.history.head? = some e ∧ e.matched = false := by
    cases m.history with
    | nil => simp [missingEntry]
    | cons e rest => simp [missingEntry, Config.historyCapacity]
  rw [Monitor.losesStroke, Bool.and_eq_true, hmissing, decide_eq_true_eq, and_assoc]
  rfl

/-- A count loses a monitor when it strikes and its stroke loses the monitor. -/
theorem State.countLoses_iff (h : Head) (s : State) :
    s.countLoses h = true ↔ (s.monitors.get h).losesStroke = true ∧ strikes h s := by
  unfold State.countLoses strikes
  simp only [Bool.and_eq_true, State.cutsCells_iff]
  refine and_congr_right fun _ => ?_
  cases s.cutOf h <;> simp [Cut.cells]

/-- A count at a head changes nothing, or moves its accumulator, or strikes: then it also steps the cell counters and
the queue head by what is cut, and emits the stroke. -/
theorem State.countHead_cases (angle : Nat) (h : Head) (s : State) :
    s.countHead angle h = s ∨ (∃ v, s.countHead angle h = s.setAccumulator h v) ∨
      strikes h s ∧ ∃ v count head stroke,
        s.countHead angle h = (((s.setAccumulator h v).updCells h count).updQueue h head).emit h stroke := by
  have hidle : ∀ u : State, (u.updCells h (fun c => c)).updQueue h (fun q => q) = u := fun u => by
    show { u with
      rpt := { u.rpt with heads := u.rpt.heads.set h (u.rpt.heads.get h) }
      queues := u.queues.set h (u.queues.get h) } = u
    rw [PerHead.set_get_self, PerHead.set_get_self]
  unfold State.countHead
  cases hcut : s.cutOf h with
  | nothing => exact .inl rfl
  | track r =>
    simp only [State.trackCount]
    split
    · split
      · exact .inr (.inl ⟨_, rfl⟩)
      · have hcells : cutsCells h s.jobCells s := by
          rw [State.cutsCells_iff, hcut]
          rfl
        exact .inr (.inr ⟨⟨_, hcells, ‹_›, by omega⟩, _, _, _, _, rfl⟩)
    · exact .inl rfl
  | test u =>
    simp only [State.testCount]
    split
    · split
      · exact .inr (.inl ⟨_, rfl⟩)
      · have hcells : cutsCells h u.cells s := by
          rw [State.cutsCells_iff, hcut]
          rfl
        exact .inr (.inr ⟨⟨_, hcells, ‹_›, by omega⟩, _, fun c => c, fun q => q, _, by rw [hidle]⟩)
    · exact .inl rfl

/-! ## The view of a head -/

/-- What a forward count at a head reads of the part. -/
structure CountView where
  channel : Channel
  queue : Queue
  monitor : Monitor
  counters : HeadCounters
  cal : Calibration
  store : Store
  record : Option JobRecord
  settings : Option TimingSettings

/-- The view of a head at a forward count. -/
def State.countView (h : Head) (s : State) : CountView :=
  ⟨s.channels.get h, s.queues.get h, s.monitors.get h, s.rpt.heads.get h, s.cals.get h, s.store, s.job.record,
    s.ctu.settings⟩

/-! ## What the shared operations do to a view -/

theorem State.post_countView (e : Event) (h : Head) (s : State) : State.countView h (s.post e) = s.countView h := rfl

section Own

variable {h : Head} {s t : State}

theorem State.updChannel_countView (f : Channel → Channel) (e : s.countView h = t.countView h) :
    State.countView h (s.updChannel h f) = State.countView h (t.updChannel h f) := by
  injection e with hc hq hm hn hcal hst hr hset
  simp [State.countView, hc, hq, hm, hn, hcal, hst, hr, hset]

theorem State.updQueue_countView (f : Queue → Queue) (e : s.countView h = t.countView h) :
    State.countView h (s.updQueue h f) = State.countView h (t.updQueue h f) := by
  injection e with hc hq hm hn hcal hst hr hset
  simp [State.countView, hc, hq, hm, hn, hcal, hst, hr, hset]

theorem State.updMonitor_countView (f : Monitor → Monitor) (e : s.countView h = t.countView h) :
    State.countView h (s.updMonitor h f) = State.countView h (t.updMonitor h f) := by
  injection e with hc hq hm hn hcal hst hr hset
  simp [State.countView, hc, hq, hm, hn, hcal, hst, hr, hset]

theorem State.updCounters_countView (f : HeadCounters → HeadCounters) (e : s.countView h = t.countView h) :
    State.countView h (s.updCounters h f) = State.countView h (t.updCounters h f) := by
  injection e with hc hq hm hn hcal hst hr hset
  simp [State.countView, Rpt.updHead, hc, hq, hm, hn, hcal, hst, hr, hset]

theorem State.updCells_countView (f : CellCounters → CellCounters) (e : s.countView h = t.countView h) :
    State.countView h (s.updCells h f) = State.countView h (t.updCells h f) :=
  State.updCounters_countView (fun c => { c with cells := f c.cells }) e

theorem State.raiseFault_countView (fault : StylusFault) (run : Nat) (tag : BitVec 8) (value : Option Nat)
    (e : s.countView h = t.countView h) :
    State.countView h (s.raiseFault h fault run tag value) =
      State.countView h (t.raiseFault h fault run tag value) := by
  rw [State.raiseFault, State.raiseFault, State.post_countView, State.post_countView]
  exact State.updCounters_countView _ e

end Own

section Other

variable {h k : Head} (hk : k ≠ h) (s : State)
include hk

theorem State.updChannel_countView_other (f : Channel → Channel) :
    State.countView k (s.updChannel h f) = s.countView k := by
  simp [State.countView, PerHead.get_set_other _ _ _ _ hk]

theorem State.updQueue_countView_other (f : Queue → Queue) :
    State.countView k (s.updQueue h f) = s.countView k := by
  simp [State.countView, PerHead.get_set_other _ _ _ _ hk]

theorem State.updMonitor_countView_other (f : Monitor → Monitor) :
    State.countView k (s.updMonitor h f) = s.countView k := by
  simp [State.countView, PerHead.get_set_other _ _ _ _ hk]

theorem State.updCounters_countView_other (f : HeadCounters → HeadCounters) :
    State.countView k (s.updCounters h f) = s.countView k := by
  simp [State.countView, Rpt.updHead, PerHead.get_set_other _ _ _ _ hk]

theorem State.updCells_countView_other (f : CellCounters → CellCounters) :
    State.countView k (s.updCells h f) = s.countView k :=
  State.updCounters_countView_other hk s _

theorem State.updCal_countView_other (f : Calibration → Calibration) :
    State.countView k (s.updCal h f) = s.countView k := by
  simp [State.countView, PerHead.get_set_other _ _ _ _ hk]

theorem State.depart_countView_other (st : ChannelState) (cause : StopCause) :
    State.countView k (s.depart h st cause) = s.countView k := by
  simp [State.countView, State.depart, Rpt.updHead, PerHead.get_set_other _ _ _ _ hk]

theorem State.leaveJob_countView_other (st : ChannelState) (cause : StopCause) :
    State.countView k (s.leaveJob h st cause) = s.countView k := by
  have hend : ∀ u : State, State.countView k u.endJob = u.countView k := by
    intro u
    unfold State.endJob
    split <;> rfl
  rw [State.leaveJob, hend, State.post_countView, ← s.depart_countView_other hk st cause]
  rfl

theorem State.failCal_countView_other (cause : CalCause) (detail : CalDetail) :
    State.countView k (s.failCal h cause detail) = s.countView k := by
  rw [State.failCal, State.endCal, State.updChannel_countView_other hk, State.updCal_countView_other hk,
    State.post_countView]

/-- A count at one head leaves the view of every other. -/
theorem State.enterStroke_countView_other (word : Nat) (closed : Bool) :
    State.countView k (s.enterStroke h word closed) = s.countView k := by
  unfold State.enterStroke
  dsimp only
  split
  · split
    · rw [State.raiseFault, State.post_countView, State.updCounters_countView_other hk,
        State.updCells_countView_other hk, State.updMonitor_countView_other hk]
    · rw [State.updCells_countView_other hk, State.updMonitor_countView_other hk]
  · rw [State.updMonitor_countView_other hk]

theorem State.emit_countView_other (stroke : Stroke) :
    State.countView k (s.emit h stroke) = s.countView k := by
  rw [State.emit, State.updChannel_countView_other hk, State.updChannel_countView_other hk,
    State.enterStroke_countView_other hk, State.updChannel_countView_other hk]

theorem State.countHead_countView_other (angle : Nat) :
    State.countView k (s.countHead angle h) = s.countView k := by
  have hacc : ∀ v, State.countView k (s.setAccumulator h v) = s.countView k := fun v =>
    s.updChannel_countView_other hk _
  rcases s.countHead_cases angle h with hsame | ⟨v, hmoved⟩ | ⟨-, v, count, head, stroke, hstruck⟩
  · rw [hsame]
  · rw [hmoved, hacc]
  · rw [hstruck, State.emit_countView_other hk, State.updQueue_countView_other hk,
      State.updCells_countView_other hk, hacc]

/-- A lost monitor that does not abort the job acts at its own head. -/
theorem State.actLost_countView_other (action : FaultAction) (ha : action ≠ .aborted) :
    State.countView k (s.actLost h action) = s.countView k := by
  cases action with
  | none => rfl
  | parked => exact s.leaveJob_countView_other hk _ _
  | aborted => exact absurd rfl ha
  | calibrationFailed => exact s.failCal_countView_other hk _ _

end Other

/-! ## What a count reads -/

section Congr

variable {h : Head} {s t : State} (e : s.countView h = t.countView h)
include e

theorem State.headEntry_congr : s.headEntry h = t.headEntry h := by
  have hr : s.job.record = t.job.record := congrArg CountView.record e
  rw [State.headEntry, State.headEntry, hr]

theorem State.cutOf_congr : s.cutOf h = t.cutOf h := by
  injection e with hc hq _ _ hcal
  simp only [State.cutOf, State.channelState, hc, hq, hcal]

theorem State.jobCells_congr : s.jobCells = t.jobCells := by
  injection e with _ _ _ _ _ hst hr
  simp only [State.jobCells, State.screenEntries, hst, hr]

theorem State.counts_congr : s.counts = t.counts := by
  have hset : s.ctu.settings = t.ctu.settings := congrArg CountView.settings e
  simp only [State.counts, hset]

theorem State.trackStroke_congr (r : TrackRecord) (angle : Nat) :
    s.trackStroke h r angle = t.trackStroke h r angle := by
  have hc : s.channels.get h = t.channels.get h := congrArg CountView.channel e
  have hst : s.store = t.store := congrArg CountView.store e
  simp only [State.trackStroke, State.headcal, State.curve, State.ring, State.headEntry_congr e, State.counts_congr e,
    State.jobCells_congr e, hc, hst]

theorem State.faultAction_congr : s.faultAction h = t.faultAction h := by
  have hc : s.channels.get h = t.channels.get h := congrArg CountView.channel e
  simp only [State.faultAction, State.channelState, hc, State.headEntry_congr e]

theorem State.countLoses_congr : s.countLoses h = t.countLoses h := by
  have hc : s.channels.get h = t.channels.get h := congrArg CountView.channel e
  have hm : s.monitors.get h = t.monitors.get h := congrArg CountView.monitor e
  simp only [State.countLoses, hm, hc, State.cutOf_congr e, State.jobCells_congr e, State.counts_congr e]

theorem State.countAborts_congr : s.countAborts h = t.countAborts h := by
  rw [State.countAborts, State.countAborts, State.countLoses_congr e, State.faultAction_congr e]

theorem State.enterStroke_countView (word : Nat) (closed : Bool) :
    State.countView h (s.enterStroke h word closed) = State.countView h (t.enterStroke h word closed) := by
  have hc : s.channels.get h = t.channels.get h := congrArg CountView.channel e
  have hm : s.monitors.get h = t.monitors.get h := congrArg CountView.monitor e
  unfold State.enterStroke
  simp only [hc, hm]
  split
  · split
    · exact State.raiseFault_countView _ _ _ _ (State.updCells_countView _ (State.updMonitor_countView _ e))
    · exact State.updCells_countView _ (State.updMonitor_countView _ e)
  · exact State.updMonitor_countView _ e

theorem State.emit_countView (stroke : Stroke) :
    State.countView h (s.emit h stroke) = State.countView h (t.emit h stroke) :=
  State.updChannel_countView _ (State.updChannel_countView _
    (State.enterStroke_countView (State.updChannel_countView _ e) _ _))

/-- A count leaves a head as its view of the part says. -/
theorem State.countHead_countView (angle : Nat) :
    State.countView h (s.countHead angle h) = State.countView h (t.countHead angle h) := by
  have hc : s.channels.get h = t.channels.get h := congrArg CountView.channel e
  unfold State.countHead
  rw [State.cutOf_congr e]
  cases t.cutOf h with
  | nothing => exact e
  | track r =>
    simp only [State.trackCount, hc, State.jobCells_congr e, State.counts_congr e, State.trackStroke_congr e]
    split
    · split
      · exact State.updChannel_countView _ e
      · exact State.emit_countView (State.updQueue_countView _ (State.updCells_countView _
          (State.updChannel_countView _ e))) _
    · exact e
  | test u =>
    simp only [State.testCount, hc, State.counts_congr e]
    split
    · split
      · exact State.updChannel_countView _ e
      · exact State.emit_countView (State.updChannel_countView _ e) _
    · exact e

end Congr

end Sys2Proof.Machine
end

section
/-! A forward count at the four heads (O37). -/

namespace Sys2Proof.Machine

open Sys2Proof.Claims

theorem monitorIsLostAtSixtyFourthMissingStroke : MonitorIsLostAtSixtyFourthMissingStroke := by
  intro h s
  rw [s.countLoses_iff h, Monitor.losesStroke_iff, and_comm]

/-! ## What a lost monitor does -/

theorem State.faultAction_eq (h : Head) (s : State) : s.faultAction h = actionOf h s := by
  unfold State.faultAction actionOf
  cases s.channelState h with
  | cutting => cases s.headEntry h <;> simp
  | calibrating | off | primed | waiting | done | parked | halted => rfl

theorem State.actLost_eq (h : Head) (action : FaultAction) (s : State) :
    s.actLost h action = lostTaken h action s := by
  cases action with
  | none => rfl
  | parked => exact s.leaveJob_eq h .parked .monitorLost rfl
  | aborted => rfl
  | calibrationFailed => exact s.failCal_eq h _ _

theorem State.countThenAct_eq (angle : Nat) (h : Head) (s : State) :
    s.countThenAct angle h = countTaken angle s h := by
  simp only [State.countThenAct, countTaken, State.faultAction_eq, State.actLost_eq]

theorem State.countThenPark_eq (angle : Nat) (h : Head) (s : State) :
    s.countThenPark angle h = countKept angle s h := by
  simp only [State.countThenPark, countKept, State.faultAction_eq, State.actLost_eq, Bool.and_eq_true, bne_iff_ne]

theorem State.countAborts_iff (h : Head) (s : State) :
    s.countAborts h = true ↔ s.countLoses h = true ∧ actionOf h s = .aborted := by
  rw [State.countAborts, Bool.and_eq_true, beq_iff_eq, State.faultAction_eq]

/-! ## The order of an abort within a count -/

/-- A count that aborts no job. -/
theorem State.countAll_of_no_abort (angle : Nat) (s : State) (hno : ∀ h, s.countAborts h = false) :
    s.countAll angle = forHeads (State.countThenAct angle) s := by
  unfold State.countAll
  rw [if_neg]
  rw [any_head_iff (fun h => s.countAborts h)]
  rintro ⟨h, hh⟩
  cases hh.symm.trans (hno h)

/-- A count that aborts the job: the free value says whether at its head or after all strokes (log entry 8). -/
theorem State.countAll_of_abort (angle : Nat) (s : State) (habort : ∃ h, s.countAborts h = true) :
    s.countAll angle = forHeads (State.countThenAct angle) { s with choices := s.choices + 1 } ∨
      s.countAll angle =
        (forHeads (State.countThenPark angle) { s with choices := s.choices + 1 }).abortJob .monitorLost := by
  have hany := (any_head_iff (fun h => s.countAborts h)).mpr habort
  have honce := forHeads_once (fun h => s.countAborts h) (State.abortJob .monitorLost)
    (fun u => u.abortJob_abortJob _ _) (forHeads (State.countThenPark angle) { s with choices := s.choices + 1 })
    habort
  unfold State.countAll
  rw [if_pos hany]
  dsimp only
  split
  · exact .inl rfl
  · exact .inr honce

theorem lostMonitorActsAfterItsStroke : LostMonitorActsAfterItsStroke := by
  intro angle s
  refine ⟨fun hno => ?_, ?_⟩
  · have hquiet : ∀ h, s.countAborts h = false := fun h => by
      rw [Bool.eq_false_iff, ne_eq, s.countAborts_iff h]
      exact fun ⟨hloses, habort⟩ => hno h hloses habort
    rw [s.countAll_of_no_abort angle hquiet, forHeads_congr (State.countThenAct_eq angle)]
    rfl
  · rintro ⟨h, hloses, habort⟩ drawn
    have hact := forHeads_congr (State.countThenAct_eq angle) drawn
    have hpark := forHeads_congr (State.countThenPark_eq angle) drawn
    rcases s.countAll_of_abort angle ⟨h, (s.countAborts_iff h).mpr ⟨hloses, habort⟩⟩ with hfirst | hlast
    · exact .inl (hfirst.trans hact)
    · exact .inr (hlast.trans (congrArg (State.abortJob .monitorLost) hpark))

/-! ## A count that loses no monitor -/

/-- What a count that loses no monitor leaves alone: all but the channels, the queues, the Cut Monitor and the
counters of the heads. -/
def State.aside (s : State) : State :=
  { s with
    channels := State.reset.channels, queues := State.reset.queues, monitors := State.reset.monitors
    rpt := { s.rpt with heads := State.reset.rpt.heads } }

theorem State.eq_of_aside {s t : State} (h : t.aside = s.aside) :
    t = { s with
      channels := t.channels, queues := t.queues, monitors := t.monitors
      rpt := { s.rpt with heads := t.rpt.heads } } :=
  congrArg (fun u : State =>
    { u with
      channels := t.channels, queues := t.queues, monitors := t.monitors
      rpt := { u.rpt with heads := t.rpt.heads } }) h

theorem State.enterStroke_aside (h : Head) (word : Nat) (closed : Bool) (s : State)
    (hm : (s.monitors.get h).losesStroke = false) : (s.enterStroke h word closed).aside = s.aside := by
  unfold State.enterStroke
  simp only [hm]
  split <;> rfl

theorem State.emit_aside (h : Head) (stroke : Stroke) (s : State) (hm : (s.monitors.get h).losesStroke = false) :
    (s.emit h stroke).aside = s.aside :=
  State.enterStroke_aside h stroke.word stroke.closed (s.updChannel h (Channel.present stroke.word)) hm

theorem State.countHead_aside (angle : Nat) (h : Head) (s : State) (hl : s.countLoses h = false) :
    (s.countHead angle h).aside = s.aside := by
  rcases s.countHead_cases angle h with hsame | ⟨v, hmoved⟩ | ⟨hstrikes, v, count, head, stroke, hstruck⟩
  · rw [hsame]
  · rw [hmoved]
    rfl
  · have hm : (s.monitors.get h).losesStroke = false := by
      rw [Bool.eq_false_iff] at hl ⊢
      exact fun hm => hl ((s.countLoses_iff h).mpr ⟨hm, hstrikes⟩)
    rw [hstruck]
    exact State.emit_aside h stroke _ hm

/-- A count at a head that is not taken where it would lose the monitor. -/
def State.countUnlost (angle : Nat) (h : Head) (s : State) : State :=
  if s.countLoses h then s else s.countHead angle h

theorem State.countUnlost_of_not_lost (angle : Nat) {h : Head} {s : State} (hl : s.countLoses h = false) :
    s.countUnlost angle h = s.countHead angle h :=
  if_neg (Bool.eq_false_iff.mp hl)

theorem State.countUnlost_aside (angle : Nat) (h : Head) (s : State) : (s.countUnlost angle h).aside = s.aside := by
  unfold State.countUnlost
  split
  · rfl
  · exact s.countHead_aside angle h (Bool.eq_false_iff.mpr ‹_›)

theorem State.countUnlost_countView_other (angle : Nat) (h k : Head) (s : State) (hk : k ≠ h) :
    State.countView k (s.countUnlost angle h) = s.countView k := by
  unfold State.countUnlost
  split
  · rfl
  · exact s.countHead_countView_other hk angle

theorem State.countUnlost_countView (angle : Nat) (h : Head) (s t : State) (e : s.countView h = t.countView h) :
    State.countView h (s.countUnlost angle h) = State.countView h (t.countUnlost angle h) := by
  unfold State.countUnlost
  rw [State.countLoses_congr e]
  split
  · exact e
  · exact State.countHead_countView e angle

/-- A count that loses no monitor is a count at each head. -/
theorem State.countAll_of_not_lost (angle : Nat) (s : State) (hno : ∀ h, s.countLoses h = false) :
    s.countAll angle = forHeads (State.countUnlost angle) s := by
  have hquiet : ∀ h, s.countAborts h = false := fun h => by rw [State.countAborts, hno h, Bool.false_and]
  rw [s.countAll_of_no_abort angle hquiet]
  refine forHeads_congr_of_view State.countView (State.countUnlost_countView_other angle) s (fun h t e => ?_)
  have hl : t.countLoses h = false := (State.countLoses_congr e).trans (hno h)
  rw [State.countUnlost_of_not_lost angle hl]
  exact if_neg (Bool.eq_false_iff.mp hl)

theorem countReachesEveryHeadOnItsOwn : CountReachesEveryHeadOnItsOwn := by
  intro angle s hno t
  have ht : t = forHeads (State.countUnlost angle) s := s.countAll_of_not_lost angle hno
  refine ⟨fun h => ?_, State.eq_of_aside ?_⟩
  · have hview := forHeads_view_of_own State.countView (State.countUnlost angle)
      (State.countUnlost_countView_other angle) (State.countUnlost_countView angle) s h
    rw [← ht, State.countUnlost_of_not_lost angle (hno h)] at hview
    injection hview with hchannel hqueue hmonitor hcounters
    exact ⟨hchannel, hqueue, hmonitor, hcounters⟩
  · rw [ht]
    exact forHeads_view State.aside _ (State.countUnlost_aside angle) s

/-! ## A count that aborts the job -/

/-- The job has been aborted by a lost monitor, and no channel is active. -/
structure State.LostAborted (s : State) : Prop where
  state : s.job.state = .aborted
  cause : s.job.abortCause = some .monitorLost
  idle : ∀ h : Head, s.active h = false
  feed : s.ctu.feedEn = false

theorem State.lostAborted_of_live (s : State) (hlive : jobLive s.job.state = true) :
    (s.abortJob .monitorLost).LostAborted where
  state := by rw [s.abortJob_job _ hlive]
  cause := by rw [s.abortJob_job _ hlive]
  idle := s.abortJob_active _ hlive
  feed := by rw [s.abortJob_ctu _ hlive]

theorem State.updChannel_channelState (h k : Head) (f : Channel → Channel) (s : State)
    (hf : ∀ c, (f c).state = c.state) : State.channelState k (s.updChannel h f) = s.channelState k := by
  rw [State.channelState, State.updChannel_channels, PerHead.get_set]
  split
  · rename_i hk
    rw [hf, hk, State.channelState]
  · rfl

theorem State.emit_channelState (h k : Head) (stroke : Stroke) (s : State) :
    State.channelState k (s.emit h stroke) = s.channelState k := by
  have hwear : ∀ c : Channel, (c.countWear stroke.closed).state = c.state := fun c => by
    unfold Channel.countWear
    split <;> rfl
  have henter : ∀ u : State, State.channelState k (u.enterStroke h stroke.word stroke.closed) = u.channelState k :=
    fun u => by simp [State.channelState]
  rw [State.emit, State.updChannel_channelState _ _ Channel.advance _ (fun _ => rfl),
    State.updChannel_channelState _ _ _ _ hwear, henter,
    State.updChannel_channelState _ _ (Channel.present stroke.word) _ (fun _ => rfl)]

/-- A count moves no channel. -/
theorem State.countHead_channelState (angle : Nat) (h k : Head) (s : State) :
    State.channelState k (s.countHead angle h) = s.channelState k := by
  have hacc : ∀ v, State.channelState k (s.setAccumulator h v) = s.channelState k := fun v =>
    s.updChannel_channelState h k _ (fun _ => rfl)
  rcases s.countHead_cases angle h with hsame | ⟨v, hmoved⟩ | ⟨-, v, count, head, stroke, hstruck⟩
  · rw [hsame]
  · rw [hmoved, hacc]
  · rw [hstruck, State.emit_channelState]
    exact hacc v

theorem State.countHead_active (angle : Nat) (h k : Head) (s : State) :
    State.active k (s.countHead angle h) = s.active k := by
  rw [State.active, State.countHead_channelState, State.active]

theorem State.failCal_active (h k : Head) (cause : CalCause) (detail : CalDetail) (s : State) :
    State.active k (s.failCal h cause detail) = (s.active k && decide (k ≠ h)) := by
  by_cases hk : k = h
  · subst hk
    simp [State.active, State.channelState, State.failCal, State.endCal, Channel.enter, activeState]
  · simp [State.active, State.channelState, State.failCal, State.endCal, PerHead.get_set_other _ _ _ _ hk, hk]

/-- While another channel stays active, a departure does not end the job (R104). -/
theorem State.leaveJob_job_of_active (h k : Head) (st : ChannelState) (cause : StopCause) (s : State) (hk : k ≠ h)
    (ha : s.active k = true) : (s.leaveJob h st cause).job = s.job := by
  have hactive : State.anyActive
      (((s.depart h st cause).dropFeed).post (s.departEvent h st cause)) = true := by
    refine (State.anyActive_iff _).mpr ⟨k, ?_⟩
    rw [← ha]
    simp [State.active, State.channelState, PerHead.get_set_other _ _ _ _ hk]
  rw [State.leaveJob, State.endJob, hactive, Bool.not_true, Bool.and_false, if_neg Bool.false_ne_true]
  rfl

/-- While another channel stays active, a lost monitor that does not abort the job leaves it. -/
theorem State.actLost_job_of_active (h k : Head) (action : FaultAction) (s : State) (ha : action ≠ .aborted)
    (hk : k ≠ h) (hactive : s.active k = true) : (s.actLost h action).job = s.job := by
  cases action with
  | none => rfl
  | parked => exact s.leaveJob_job_of_active h k _ _ hk hactive
  | aborted => exact absurd rfl ha
  | calibrationFailed => rfl

theorem State.countHead_lostAborted (angle : Nat) (h : Head) (s : State) (hs : s.LostAborted) :
    (s.countHead angle h).LostAborted := by
  obtain ⟨-, hctu, hjob, -⟩ := s.countHead_frame angle h
  exact ⟨hjob ▸ hs.state, hjob ▸ hs.cause, fun k => (s.countHead_active angle h k).trans (hs.idle k),
    hctu ▸ hs.feed⟩

theorem State.failCal_lostAborted (h : Head) (cause : CalCause) (detail : CalDetail) (s : State) (hs : s.LostAborted) :
    (s.failCal h cause detail).LostAborted :=
  ⟨hs.state, hs.cause, fun k => by rw [State.failCal_active, hs.idle k, Bool.false_and], hs.feed⟩

/-- Once the job is aborted, a count at a head leaves it so. -/
theorem State.countThenAct_lostAborted (angle : Nat) (h : Head) (s : State) (hs : s.LostAborted) :
    (s.countThenAct angle h).LostAborted := by
  have hcount := s.countHead_lostAborted angle h hs
  have hidle := hs.idle h
  unfold State.countThenAct State.faultAction
  split
  · cases hst : s.channelState h with
    | cutting =>
      rw [State.active, hst] at hidle
      cases hidle
    | calibrating => exact State.failCal_lostAborted h _ _ _ hcount
    | off | primed | waiting | done | parked | halted => exact hcount
  · exact hcount

/-- A head whose monitor, lost, aborts the job is CUTTING, and so active. -/
theorem State.active_of_countAborts {h : Head} {s : State} (ha : s.countAborts h = true) : s.active h = true := by
  rw [State.countAborts, Bool.and_eq_true, beq_iff_eq] at ha
  unfold State.faultAction at ha
  cases hst : s.channelState h with
  | cutting =>
    rw [State.active, hst]
    rfl
  | off | calibrating | primed | waiting | done | parked | halted =>
    rw [hst] at ha
    cases ha.2

theorem State.countThenAct_of_abort (angle : Nat) {h : Head} {s : State} (ha : s.countAborts h = true) :
    s.countThenAct angle h = (s.countHead angle h).abortJob .monitorLost := by
  rw [State.countAborts, Bool.and_eq_true, beq_iff_eq] at ha
  rw [State.countThenAct, if_pos ha.1, ha.2]
  rfl

theorem State.countThenPark_of_abort (angle : Nat) {h : Head} {s : State} (ha : s.countAborts h = true) :
    s.countThenPark angle h = s.countHead angle h := by
  rw [State.countAborts, Bool.and_eq_true, beq_iff_eq] at ha
  simp [State.countThenPark, ha.2]

/-- Where no abort is due, both orders take a count alike. -/
theorem State.countThenPark_of_no_abort (angle : Nat) {h : Head} {s : State} (ha : s.countAborts h = false) :
    s.countThenPark angle h = s.countThenAct angle h := by
  unfold State.countThenPark State.countThenAct
  unfold State.countAborts at ha
  cases hl : s.countLoses h with
  | false => rfl
  | true =>
    rw [hl, Bool.true_and, beq_eq_false_iff_ne] at ha
    simp [ha]

/-- A count at a head at which no abort is due leaves the job and the view of a head that stays active. -/
theorem State.countThenAct_other (angle : Nat) {h k : Head} {s : State} (ha : s.countAborts h = false) (hk : k ≠ h)
    (hactive : s.active k = true) :
    (s.countThenAct angle h).job = s.job ∧ State.countView k (s.countThenAct angle h) = s.countView k := by
  have hview := s.countHead_countView_other hk angle
  have hjob : (s.countHead angle h).job = s.job := by simp
  unfold State.countThenAct
  split
  · rename_i hl
    have hact : s.faultAction h ≠ .aborted := by
      rwa [State.countAborts, hl, Bool.true_and, beq_eq_false_iff_ne] at ha
    rw [State.actLost_countView_other hk _ _ hact,
      State.actLost_job_of_active h k _ _ hact hk ((s.countHead_active angle h k).trans hactive)]
    exact ⟨hjob, hview⟩
  · exact ⟨hjob, hview⟩

/-- Before the step of head `i`: the job has been aborted by a lost monitor, or it is live and the abort of head `h`
is still to come. -/
def AbortDue (h : Head) (i : Nat) (s : State) : Prop :=
  s.LostAborted ∨ jobLive s.job.state = true ∧ i ≤ h.val ∧ s.countAborts h = true

theorem abortDue_step (angle : Nat) (h g : Head) (s : State) (hs : AbortDue h g.val s) :
    AbortDue h (g.val + 1) (s.countThenAct angle g) := by
  rcases hs with hdone | ⟨hlive, hle, habort⟩
  · exact .inl (s.countThenAct_lostAborted angle g hdone)
  · cases hg : s.countAborts g with
    | true =>
      rw [State.countThenAct_of_abort angle hg]
      refine .inl (State.lostAborted_of_live _ ?_)
      simpa using hlive
    | false =>
      have hne : h ≠ g := by
        rintro rfl
        cases hg.symm.trans habort
      have hval : h.val ≠ g.val := fun hv => hne (Fin.ext hv)
      obtain ⟨hjob, hview⟩ := State.countThenAct_other angle hg hne (State.active_of_countAborts habort)
      exact .inr ⟨hjob ▸ hlive, by omega, (State.countAborts_congr hview).trans habort⟩

/-- Before the step of head `i` of a count that keeps its aborts for its end: the job is live, head `h` is active, and
its abort is due if its step is still to come. -/
structure AbortKept (h : Head) (i : Nat) (s : State) : Prop where
  live : jobLive s.job.state = true
  active : s.active h = true
  due : i ≤ h.val → s.countAborts h = true

theorem abortKept_step (angle : Nat) (h g : Head) (s : State) (hs : AbortKept h g.val s) :
    AbortKept h (g.val + 1) (s.countThenPark angle g) := by
  cases hg : s.countAborts g with
  | true =>
    rw [State.countThenPark_of_abort angle hg]
    have hjob : (s.countHead angle g).job = s.job := by simp
    refine ⟨hjob ▸ hs.live, (s.countHead_active angle g h).trans hs.active, fun hle => ?_⟩
    have hne : h ≠ g := by
      rintro rfl
      omega
    exact (State.countAborts_congr (s.countHead_countView_other hne angle)).trans (hs.due (by omega))
  | false =>
    have hne : h ≠ g := by
      rintro rfl
      cases hg.symm.trans (hs.due (Nat.le_refl _))
    obtain ⟨hjob, hview⟩ := State.countThenAct_other angle hg hne hs.active
    have hchannel : (s.countThenAct angle g).channels.get h = s.channels.get h := congrArg CountView.channel hview
    rw [State.countThenPark_of_no_abort angle hg]
    refine ⟨hjob ▸ hs.live, ?_, fun hle => (State.countAborts_congr hview).trans (hs.due (by omega))⟩
    rw [State.active, State.channelState, hchannel]
    exact hs.active

/-- In either order a count with an abort ends in it. -/
theorem State.countAll_lostAborted (angle : Nat) (s : State) (hlive : jobLive s.job.state = true)
    (habort : ∃ h, s.countAborts h = true) : (s.countAll angle).LostAborted := by
  obtain ⟨h, hh⟩ := habort
  let drawn : State := { s with choices := s.choices + 1 }
  have hdrawn : drawn.countAborts h = true := hh
  rcases s.countAll_of_abort angle ⟨h, hh⟩ with hfirst | hlast
  · have hdue : AbortDue h 4 (forHeads (State.countThenAct angle) drawn) :=
      forHeads_induction (AbortDue h) _ (abortDue_step angle h) (.inr ⟨hlive, Nat.zero_le _, hdrawn⟩)
    rw [hfirst]
    rcases hdue with hdone | ⟨-, hle, -⟩
    · exact hdone
    · exact absurd h.isLt (Nat.not_lt.mpr hle)
  · have hkept : AbortKept h 4 (forHeads (State.countThenPark angle) drawn) :=
      forHeads_induction (AbortKept h) _ (abortKept_step angle h)
        ⟨hlive, State.active_of_countAborts hdrawn, fun _ => hdrawn⟩
    rw [hlast]
    exact State.lostAborted_of_live _ hkept.live

/-! ## What a count leaves of the timing -/

theorem State.actLost_timing (h : Head) (action : FaultAction) (s : State) :
    (s.actLost h action).timing = s.timing := by
  cases action with
  | none => rfl
  | parked => exact s.leaveJob_timing h _ _
  | aborted => exact s.abortJob_timing _
  | calibrationFailed => exact State.timing_congr (by simp [State.actLost, State.actFault])

theorem State.countHead_timing (angle : Nat) (h : Head) (s : State) : (s.countHead angle h).timing = s.timing :=
  State.timing_congr (by simp)

theorem State.countAll_timing (angle : Nat) (s : State) : (s.countAll angle).timing = s.timing := by
  have hact := forHeads_view State.timing (State.countThenAct angle) (fun h u => by
    unfold State.countThenAct
    split <;> simp [State.actLost_timing, State.countHead_timing])
  have hpark := forHeads_view State.timing (State.countThenPark angle) (fun h u => by
    unfold State.countThenPark
    split <;> simp [State.actLost_timing, State.countHead_timing])
  cases hany : allHeads.any (fun h => s.countAborts h) with
  | false =>
    rw [List.any_eq_false] at hany
    rw [s.countAll_of_no_abort angle (fun h => Bool.eq_false_iff.mpr (hany h (mem_allHeads h)))]
    exact hact s
  | true =>
    obtain ⟨h, -, hh⟩ := List.any_eq_true.mp hany
    rcases s.countAll_of_abort angle ⟨h, hh⟩ with hfirst | hlast
    · rw [hfirst]
      exact hact _
    · rw [hlast, State.abortJob_timing]
      exact hpark _

theorem lostMonitorAbortsInEitherOrder : LostMonitorAbortsInEitherOrder := by
  intro angle s hlive habort t
  have ht : t.LostAborted := s.countAll_lostAborted angle hlive habort
  have hstanding : t.standing = s.standing := s.countAll_standing angle
  have hangle : t.timing.angle = s.timing.angle := congrArg Ctu.angle (s.countAll_timing angle)
  obtain ⟨hstore, hlines, -⟩ := s.countAll_frame angle
  exact ⟨ht.state, ht.cause, congrArg Standing.record hstanding, t.anyActive_eq_false_iff.mpr ht.idle, ht.feed,
    hstore, congrArg Standing.timing hstanding, hangle, hlines⟩

/-- Settles O37, by what a count reads and writes at each head and by the order of an abort within it. -/
theorem countReachesEveryHead : Obligations.CountReachesEveryHead :=
  ⟨countReachesEveryHeadOnItsOwn, monitorIsLostAtSixtyFourthMissingStroke, lostMonitorActsAfterItsStroke,
    lostMonitorAbortsInEitherOrder⟩

end Sys2Proof.Machine
end

section
/-! The shape of the Track Queues (O32). -/

namespace Sys2Proof.Machine

theorem Queue.afterReset_shaped : Queue.afterReset.Shaped := Queue.Shaped.nil _ rfl

/-- The queues change in a chain of moves only where a move of one block says so, and at a full reset. -/
theorem Moves.queuesShaped {s t : State} (h : Moves s t) : s.QueuesShaped → t.QueuesShaped := by
  induction h with
  | refl s => exact id
  | trans _ _ ihs iht => exact fun hs => iht (ihs hs)
  | free | link | channels | monitors | cals | store => exact fun hs => hs
  | queues qs s hq => exact fun hs k => hq k (hs k)
  | emit h k s =>
    obtain ⟨-, -, -, hqueues, -⟩ := s.emit_frame h k
    intro hs
    unfold State.QueuesShaped
    rw [hqueues]
    exact hs
  | fullReset s =>
    intro _ k
    have hblank : s.fullReset.queues.get k = Queue.afterReset := PerHead.get_const Queue.afterReset k
    rw [hblank]
    exact Queue.afterReset_shaped

/-- Settles O32: every step is a chain of moves. -/
theorem trackQueuesStayInOrder : Obligations.TrackQueuesStayInOrder := by
  intro s t hs h
  rcases step_cases s t h with rfl | ⟨c, rest, -, h⟩
  · exact hs
  · exact (exec_moves c _ t h).queuesShaped hs

end Sys2Proof.Machine
end

section
/-! The fields of a track part, and what its frame leaves when it is refused and when it is accepted (O29, O30, O31). -/

namespace Sys2Proof.Machine

open Sys2Proof.Claims

/-! ## The payload of a part -/

/-- The form check, as conditions on the length and on S (R52). -/
theorem partWellFormed_iff (p : List Byte) :
    partWellFormed p = true ↔
      partHeader p ≤ p.length ∧ partFixed ≤ p.length ∧ (p.length - partHeader p) % 2 = 0 ∧
        1 ≤ (p.length - partHeader p) / 2 ∧ (p.length - partHeader p) / 2 ≤ 2040 ∧
        1 ≤ partTotal p ∧ partTotal p ≤ 16384 := by
  simp [partWellFormed, within, and_assoc]

theorem halvesOf_be16 (v : Nat) (rest : List Byte) (hv : v < 65536) :
    halvesOf (be16 v ++ rest) = v :: halvesOf rest := by
  have hcons : halvesOf (be16 v ++ rest) = beNat (be16 v) :: halvesOf rest := by simp [be16, halvesOf]
  rw [hcons, beNat_be16 v hv]

/-- The samples of a part are read back from their bytes. -/
theorem halvesOf_flatMap_be16 (vs : List Nat) (hv : ∀ v ∈ vs, v < 65536) : halvesOf (vs.flatMap be16) = vs := by
  induction vs with
  | nil => rfl
  | cons v rest ih =>
    rw [List.flatMap_cons, halvesOf_be16 v _ (hv v List.mem_cons_self),
      ih (fun x hx => hv x (List.mem_cons_of_mem v hx))]

theorem be16_length (n : Nat) : (be16 n).length = 2 := rfl

theorem flatMap_be16_length (vs : List Nat) : (vs.flatMap be16).length = 2 * vs.length := by
  induction vs with
  | nil => rfl
  | cons v rest ih =>
    rw [List.flatMap_cons, List.length_append, ih, be16_length, List.length_cons]
    omega

/-- The four bytes of the expected signature, when the part carries one (R177). -/
def signatureBytes : Option (Nat × Nat) → List Byte
  | some (a, b) => be16 a ++ be16 b
  | none => []

/-- A payload is its nine fixed bytes, the signature and the samples. -/
theorem partBytes_eq (p : Part) :
    p.bytes = be16 p.track ++ be16 p.tag ++ be16 p.total ++ be16 p.offset ++ [p.flags] ++
      signatureBytes p.signature ++ p.samples.flatMap be16 := by
  unfold Part.bytes signatureBytes
  cases p.signature <;> rfl

theorem partFixed_le_partBytes_length (p : Part) : partFixed ≤ p.bytes.length := by
  rw [partBytes_eq]
  simp [be16, partFixed]

section Payload

variable {p : Part} (hp : p.Formed)
include hp

theorem partTrack_bytes : partTrack p.bytes = p.track := beNat_be16 p.track hp.track
theorem partTag_bytes : partTag p.bytes = p.tag := beNat_be16 p.tag hp.tag
theorem partTotal_bytes : partTotal p.bytes = p.total :=
  beNat_be16 p.total (Nat.lt_of_le_of_lt hp.total.2 (by decide))
theorem partOffset_bytes : partOffset p.bytes = p.offset := beNat_be16 p.offset hp.offset
theorem partSigned_bytes : partSigned p.bytes = p.signature.isSome := hp.sig

theorem partSignature_bytes : partSignature p.bytes = p.signature := by
  unfold partSignature
  rw [partSigned_bytes hp]
  cases hs : p.signature with
  | none => rfl
  | some halves =>
    obtain ⟨a, b⟩ := halves
    obtain ⟨ha, hb⟩ := hp.halves a b hs
    have hfirst : field p.bytes 9 2 = a := by
      rw [partBytes_eq, hs]
      exact beNat_be16 a ha
    have hsecond : field p.bytes 11 2 = b := by
      rw [partBytes_eq, hs]
      exact beNat_be16 b hb
    simp [hfirst, hsecond]

/-- The samples are what stands behind the header. -/
theorem partBytes_drop_header : p.bytes.drop (partHeader p.bytes) = p.samples.flatMap be16 := by
  unfold partHeader
  rw [partSigned_bytes hp, partBytes_eq]
  cases p.signature <;> rfl

theorem partSamples_bytes : partSamples p.bytes = p.samples := by
  unfold partSamples
  rw [partBytes_drop_header hp, halvesOf_flatMap_be16 _ hp.values]

theorem storedSamples_bytes : storedSamples p.bytes = p.stored := by
  unfold storedSamples
  rw [partSamples_bytes hp]
  rfl

theorem partClamped_bytes : partClamped p.bytes = p.samples.any (fun v => decide (1000 < v)) := by
  unfold partClamped
  rw [partSamples_bytes hp]

/-- A formed part passes the form check (R52). -/
theorem partWellFormed_bytes : partWellFormed p.bytes = true := by
  have hdrop := congrArg List.length (partBytes_drop_header hp)
  rw [List.length_drop, flatMap_be16_length] at hdrop
  have hfixed := partFixed_le_partBytes_length p
  have hsamples := hp.samples
  have htotal := hp.total
  rw [partWellFormed_iff, partTotal_bytes hp]
  omega

end Payload

/-! ## The frame of a part -/

/-- The header byte of a head names that head. -/
theorem headOf_headByte (h : Head) : headOf (BitVec.ofNat 8 h.val).toNat = some h := by
  rw [BitVec.toNat_ofNat, Nat.mod_eq_of_lt (by omega), headOf_val]

theorem exec_trackPart (b : Byte) (p : List Byte) (s : State) (hr : s.inReset = false) :
    exec (.trackPart b p) s = .next (s.trackPart b p).arbitrate :=
  serve_live (State.trackPart b p) s hr

/-- A refusal at a head, with the resume point of its queue (R51). -/
theorem refusePart_arbitrate (h : Head) (p : List Byte) (reason : RefusalReason) (s : State) :
    (s.refusePart h p reason).arbitrate = refused h (refusedTrack p) (refusedOffset p) reason s := by
  unfold State.refusePart refused Queue.resume
  cases (s.queues.get h).filling? <;> rfl

/-- A part for a head is refused with the reason its checks give. -/
theorem exec_trackPart_refused {h : Head} {p : List Byte} {reason : RefusalReason} {s : State}
    (hr : s.inReset = false) (hreason : s.partReason h p = some reason) :
    exec (.trackPart (BitVec.ofNat 8 h.val) p) s =
      .next (refused h (refusedTrack p) (refusedOffset p) reason s) := by
  rw [exec_trackPart _ p s hr, State.trackPart, headOf_headByte]
  simp only [hreason, refusePart_arbitrate]

/-- A part for a head is accepted when no check fails. -/
theorem exec_trackPart_accepted {h : Head} {p : List Byte} {s : State}
    (hr : s.inReset = false) (hreason : s.partReason h p = none) :
    exec (.trackPart (BitVec.ofNat 8 h.val) p) s = .next (s.acceptPart h p).arbitrate := by
  rw [exec_trackPart _ p s hr, State.trackPart, headOf_headByte]
  simp only [hreason]

theorem exec_trackPart_noHead {b : Byte} (p : List Byte) {s : State} (hr : s.inReset = false)
    (hb : 3 < b.toNat) : exec (.trackPart b p) s = .next (s.refuseNoHead b p).arbitrate := by
  rw [exec_trackPart b p s hr, State.trackPart, headOf_above _ hb]

/-- A payload of the wrong form is refused with LENGTH before any other check (R52). -/
theorem partReason_malformed {p : List Byte} (h : Head) (s : State) (hp : partWellFormed p = false) :
    s.partReason h p = some .length := by
  simp [State.partReason, hp]

theorem partForNoHeadIsBadField : PartForNoHeadIsBadField := by
  intro b p s hr hb named
  rw [exec_trackPart_noHead p hr hb]
  unfold State.refuseNoHead
  by_cases hlen : p.length < 8
  · rw [if_pos hlen, if_pos hlen, if_neg (Nat.not_le.mpr hlen), if_neg (Nat.not_le.mpr hlen)]
  · rw [if_neg hlen, if_neg hlen, if_pos (Nat.not_lt.mp hlen), if_pos (Nat.not_lt.mp hlen)]
    rfl

theorem malformedPartIsRefusedWithLength : MalformedPartIsRefusedWithLength := by
  intro h p s hr
  refine ⟨fun hshort => ?_, ?_⟩
  · have hform : partWellFormed p = false := by
      rw [Bool.eq_false_iff, Ne, partWellFormed_iff]
      exact fun ⟨_, hfixed, _⟩ => Nat.not_le.mpr hshort hfixed
    have htrack : refusedTrack p = 0 := if_pos hshort
    have hoffset : refusedOffset p = 0 := if_pos hshort
    rw [exec_trackPart_refused hr (partReason_malformed h s hform), htrack, hoffset]
  · intro hfixed header total hbad
    have hheader : partHeader p = header := rfl
    have htotal : partTotal p = total := rfl
    have hform : partWellFormed p = false := by
      rw [Bool.eq_false_iff, Ne, partWellFormed_iff, hheader, htotal]
      omega
    have htrack : refusedTrack p = partTrack p := if_neg (Nat.not_lt.mpr hfixed)
    have hoffset : refusedOffset p = partOffset p := if_neg (Nat.not_lt.mpr hfixed)
    rw [exec_trackPart_refused hr (partReason_malformed h s hform), htrack, hoffset]
    rfl

/-- Settles O29: a header that names no head, and a payload that fails the form check. -/
theorem partsOfWrongFormAreRefused : Obligations.PartsOfWrongFormAreRefused :=
  ⟨partForNoHeadIsBadField, malformedPartIsRefusedWithLength⟩

end Sys2Proof.Machine
end

section
/-! The checks of a well-formed part in their order (O30). -/

namespace Sys2Proof.Machine

open Sys2Proof.Claims

theorem State.takesParts_iff (h : Head) (s : State) :
    s.takesParts h = true ↔
      (s.job.state = .armed ∨ s.job.state = .running ∨ s.job.state = .stopping) ∧ s.active h = true := by
  rw [State.takesParts, Bool.and_eq_true, jobLive_iff]

section Formed

variable {p : Part} (hp : p.Formed) {h : Head} {s : State}
include hp

/-! ## The checks of the engaged head and its queue -/

theorem partReason_notEngaged (ht : s.takesParts h = false) : s.partReason h p.bytes = some .notEngaged := by
  simp [State.partReason, partWellFormed_bytes hp, ht]

theorem partReason_tag (ht : s.takesParts h = true) (htag : p.tag ≠ s.jobTag) :
    s.partReason h p.bytes = some .tag := by
  simp [State.partReason, partWellFormed_bytes hp, ht, partTag_bytes hp, htag]

/-- A part that passes NOT_ENGAGED and TAG is checked against the FILLING record (R55, R56). -/
theorem partReason_filling {r : TrackRecord} (ht : s.takesParts h = true) (htag : p.tag = s.jobTag)
    (hr : (s.queues.get h).filling? = some r) : s.partReason h p.bytes = continueReason p.bytes r := by
  simp [State.partReason, partWellFormed_bytes hp, ht, partTag_bytes hp, htag, hr]

/-- Without a FILLING record it is checked as an opening part (R57, R58). -/
theorem partReason_opening (ht : s.takesParts h = true) (htag : p.tag = s.jobTag)
    (hr : (s.queues.get h).filling? = none) :
    s.partReason h p.bytes = openReason p.bytes (s.queues.get h) := by
  simp [State.partReason, partWellFormed_bytes hp, ht, partTag_bytes hp, htag, hr]

theorem continueReason_bytes (r : TrackRecord) :
    continueReason p.bytes r =
      if p.track ≠ r.number then some .order
      else if p.total ≠ r.total then some .length
      else if p.offset < r.samples.length then some .duplicate
      else if r.samples.length < p.offset then some .gap
      else if r.total < p.offset + p.samples.length then some .length
      else if p.final = true ∨ p.signature.isSome = true then some .badField
      else none := by
  rw [continueReason, partTrack_bytes hp, partTotal_bytes hp, partOffset_bytes hp, partSamples_bytes hp,
    partSigned_bytes hp, ← if_congr (Bool.or_eq_true p.final p.signature.isSome).to_iff rfl rfl]
  rfl

theorem openReason_bytes (q : Queue) :
    openReason p.bytes q =
      if p.offset ≠ 0 then some .gap
      else if q.finalSeen = true then some .pastFinal
      else if p.track ≠ q.expected then
        if q.start ≤ p.track ∧ p.track < q.expected then some .duplicate else some .sequence
      else if p.track = 65535 ∧ p.final = false then some .badField
      else if 4 ≤ q.records.length then some .queueFull
      else none := by
  rw [openReason, partTrack_bytes hp, partOffset_bytes hp]
  rfl

/-! ## The refusal -/

theorem exec_trackPart_bytes_refused {reason : RefusalReason} (hr : s.inReset = false)
    (hreason : s.partReason h p.bytes = some reason) :
    exec (.trackPart (BitVec.ofNat 8 h.val) p.bytes) s = .next (refused h p.track p.offset reason s) := by
  have hfixed : ¬ p.bytes.length < partFixed := Nat.not_lt.mpr (partFixed_le_partBytes_length p)
  rw [exec_trackPart_refused hr hreason, refusedTrack, if_neg hfixed, refusedOffset, if_neg hfixed,
    partTrack_bytes hp, partOffset_bytes hp]

end Formed

/-- Settles O30: the checks fall into those of the head, of the tag, of the FILLING record and of an opening part, and
in each the clauses follow the order of the checks. -/
theorem partIsRefusedByFirstFailingCheck : Obligations.PartIsRefusedByFirstFailingCheck := by
  intro h p s hreset hp q no live
  have refuse : ∀ {reason}, s.partReason h p.bytes = some reason → no reason :=
    fun hreason => exec_trackPart_bytes_refused hp hreset hreason
  refine ⟨fun hout => refuse (partReason_notEngaged hp ?_), fun hlive hactive htag =>
    refuse (partReason_tag hp ((s.takesParts_iff h).mpr ⟨hlive, hactive⟩) htag), fun hlive hactive htag => ?_⟩
  · rw [Bool.eq_false_iff]
    exact fun ht => hout ((s.takesParts_iff h).mp ht)
  have ht : s.takesParts h = true := (s.takesParts_iff h).mpr ⟨hlive, hactive⟩
  constructor
  · intro r hr n
    have hchecks := (partReason_filling hp ht htag hr).trans (continueReason_bytes hp r)
    refine ⟨fun htrack => refuse ?_, fun htrack htotal => refuse ?_, fun htrack htotal hoffset => refuse ?_,
      fun htrack htotal hoffset => refuse ?_, fun htrack htotal hoffset hover => refuse ?_,
      fun htrack htotal hoffset hfits hflags => refuse ?_⟩ <;> rw [hchecks]
    · rw [if_pos htrack]
    · simp [htrack, htotal]
    · simp [htrack, htotal, hoffset]
    · simp [htrack, htotal, hoffset, Nat.not_lt.mpr hoffset.le]
    · rw [hoffset] at hover
      simp [htrack, htotal, hoffset, hover, n]
    · rw [hoffset] at hfits
      simp [htrack, htotal, hoffset, Nat.not_lt.mpr hfits, n, hflags]
  · intro hr
    have hchecks := (partReason_opening hp ht htag hr).trans (openReason_bytes hp q)
    refine ⟨fun hoffset => refuse ?_, fun hoffset hseen => refuse ?_,
      fun hoffset hseen htrack => ⟨fun hdone => refuse ?_, fun hnew => refuse ?_⟩,
      fun hoffset hseen htrack hlast hfinal => refuse ?_,
      fun hoffset hseen htrack hlast hfull => refuse ?_⟩ <;> rw [hchecks]
    · rw [if_pos hoffset]
    · simp [hoffset, hseen]
    · simp [hoffset, hseen, htrack, hdone]
    · rw [if_neg (not_not.mpr hoffset), if_neg (Bool.eq_false_iff.mp hseen), if_pos htrack, if_neg hnew]
    · rw [hlast] at htrack
      simp [hoffset, hseen, ← htrack, hlast, hfinal]
    · rw [htrack] at hlast
      simpa [hoffset, hseen, htrack, hfull] using hlast

end Sys2Proof.Machine
end

section
/-! An accepted part, and TRACK DISCARD (O31). -/

namespace Sys2Proof.Machine

open Sys2Proof.Claims

/-! ## The record an accepted part leaves -/

theorem TrackRecord.append_eq_grown (v : List Nat) (r : TrackRecord) : r.append v = grown r (r.samples ++ v) := rfl

theorem grown_isComplete (r : TrackRecord) (v : List Nat) :
    (grown r v).isComplete = decide (v.length = r.total) := by
  by_cases hv : v.length = r.total <;> simp [grown, TrackRecord.isComplete, hv]

/-- A completion moves the expected number and the final-seen flag as R61 says. -/
theorem noteCompletion_grown (r : TrackRecord) (v : List Nat) (records : List TrackRecord) (q : Queue) :
    Queue.noteCompletion (grown r v) { q with records := records } = afterGrowth (grown r v) records q := by
  have hcomplete : (grown r v).isComplete = true ↔ (grown r v).samples.length = (grown r v).total := by
    rw [grown_isComplete, decide_eq_true_iff]
    rfl
  rw [Queue.noteCompletion, afterGrowth, if_congr hcomplete rfl rfl]

section Formed

variable {p : Part} (hp : p.Formed)
include hp

/-- A part that continues the FILLING record is appended to the newest record (R56). -/
theorem accept_bytes_filling {older : List TrackRecord} {r : TrackRecord} {q : Queue}
    (hrecords : q.records = older ++ [r]) (hr : q.filling? = some r) :
    q.accept p.bytes =
      afterGrowth (grown r (r.samples ++ p.stored)) (older ++ [grown r (r.samples ++ p.stored)]) q := by
  simp only [Queue.accept, hr, Queue.replaceNewest, hrecords, List.dropLast_concat, storedSamples_bytes hp,
    TrackRecord.append_eq_grown, noteCompletion_grown]

/-- A part that opens a track puts its record at the newest end (R58). -/
theorem accept_bytes_opening {q : Queue} (hr : q.filling? = none) :
    q.accept p.bytes =
      afterGrowth (grown ⟨p.track, p.total, p.final, p.signature, [], .filling⟩ p.stored)
        (q.records ++ [grown ⟨p.track, p.total, p.final, p.signature, [], .filling⟩ p.stored]) q := by
  have hnew : newRecord p.bytes = ⟨p.track, p.total, p.final, p.signature, [], .filling⟩ := by
    rw [newRecord, partTrack_bytes hp, partTotal_bytes hp, partSignature_bytes hp]
    rfl
  simp only [Queue.accept, hr, hnew, storedSamples_bytes hp, TrackRecord.append_eq_grown, List.nil_append,
    noteCompletion_grown]

/-- An accepted part leaves its queue and the tone-clamp counter, and sends nothing (R51, R60). -/
theorem exec_trackPart_bytes_accepted {h : Head} {s : State} (hr : s.inReset = false)
    (hreason : s.partReason h p.bytes = none) :
    exec (.trackPart (BitVec.ofNat 8 h.val) p.bytes) s =
      .next (accepted h p ((s.queues.get h).accept p.bytes) s) := by
  rw [exec_trackPart_accepted hr hreason, State.acceptPart, partClamped_bytes hp, accepted]
  cases p.samples.any (fun v => decide (1000 < v)) <;> rfl

end Formed

theorem acceptedPartGrowsItsRecord : AcceptedPartGrowsItsRecord := by
  intro h p s hreset hp q hlive hactive htag
  have ht : s.takesParts h = true := (s.takesParts_iff h).mpr ⟨hlive, hactive⟩
  constructor
  · intro older r hrecords _ hr htrack htotal hoffset hfits hfinal hsig r'
    have hnone : s.partReason h p.bytes = none := by
      rw [hoffset] at hfits
      rw [partReason_filling hp ht htag hr, continueReason_bytes hp]
      simp [htrack, htotal, hoffset, Nat.not_lt.mpr hfits, hfinal, hsig]
    rw [exec_trackPart_bytes_accepted hp hreset hnone, accept_bytes_filling hp hrecords hr]
  · intro hr hoffset hseen htrack hlast hfree r'
    have hnone : s.partReason h p.bytes = none := by
      rw [partReason_opening hp ht htag hr, openReason_bytes hp q]
      rw [htrack] at hlast
      simpa [hoffset, hseen, htrack, Nat.not_le.mpr hfree] using hlast
    rw [exec_trackPart_bytes_accepted hp hreset hnone, accept_bytes_opening hp hr]

/-! ## TRACK DISCARD (R66) -/

theorem exec_trackDiscard (tag : Half) (head : Byte) (s : State) (hr : s.inReset = false) :
    exec (.trackDiscard tag [head]) s = .next (answerOf 0x38 tag (trackDiscard [head] s)) :=
  command_answers .trackDiscard tag [head] _ s hr rfl (fun _ => rfl)

theorem TrackRecord.isFilling_iff (r : TrackRecord) : r.isFilling = true ↔ r.state = .filling := by
  unfold TrackRecord.isFilling
  cases r.state <;> simp

section NewestFilling

variable {q : Queue} {older : List TrackRecord} {r : TrackRecord} (hrecords : q.records = older ++ [r])
  (hr : r.state = .filling) (holder : ∀ x ∈ older, x.state ≠ .filling)
include hrecords hr holder

/-- A FILLING record at the newest end behind records that are not is the one the queue finds. -/
theorem filling_newest : q.filling? = some r := by
  have hnone : older.find? TrackRecord.isFilling = none :=
    List.find?_eq_none.mpr (fun x hx hfill => holder x hx (x.isFilling_iff.mp hfill))
  rw [Queue.filling?, hrecords, List.find?_append, hnone, List.find?_singleton,
    if_pos (r.isFilling_iff.mpr hr), Option.none_or]

theorem discardFilling_newest : q.discardFilling = { q with records := older } := by
  have hkept : older.filter (fun x => !x.isFilling) = older :=
    List.filter_eq_self.mpr (fun x hx => by
      simpa using fun hfill => holder x hx (x.isFilling_iff.mp hfill))
  rw [Queue.discardFilling, hrecords, List.filter_append, hkept]
  simp [r.isFilling_iff.mpr hr]

end NewestFilling

theorem trackDiscardFreesFillingRecord : TrackDiscardFreesFillingRecord := by
  intro tag head s hreset
  have hhead : field [head] 0 1 = head.toNat := by simp [field]
  rw [exec_trackDiscard tag head s hreset]
  refine ⟨fun habove => congrArg _ ?_, fun h hh => ⟨fun hnone => congrArg _ ?_, fun older r hrecords hr holder =>
    congrArg _ ?_⟩⟩
  · simp only [trackDiscard, hhead, headOf_above _ habove, answerOf_mk]
  · simp only [trackDiscard, hhead, hh, headOf_val, hnone, answerOf_mk]
  · simp only [trackDiscard, hhead, hh, headOf_val, filling_newest hrecords hr holder, answerOf_mk,
      State.updQueue, discardFilling_newest hrecords hr holder, TrackRecord.filled]

/-- Settles O31: the checks of O30 with none failing, and the FILLING record at the newest end of its queue. -/
theorem partsGrowRecordsAndDiscardFreesThem : Obligations.PartsGrowRecordsAndDiscardFreesThem :=
  ⟨acceptedPartGrowsItsRecord, trackDiscardFreesFillingRecord⟩

end Sys2Proof.Machine
end

section
/-! The depth of a committed curve (O33). -/

namespace Sys2Proof.Machine

open Sys2Proof.Claims

/-! ## A committed curve -/

/-- The conditions of R13 on a curve of n breakpoints, in the terms of the statements. -/
structure RisingCurve (curve : List Entry) (n : Nat) : Prop where
  two_le : 2 ≤ n
  length : curve.length = n + 1
  count : entryNat curve 0 = n
  first : toneOf curve 0 = 0
  last : toneOf curve (n - 1) = 1000
  deepest : depthOf curve (n - 1) ≤ 1000
  rises : ∀ j, j + 1 < n → toneOf curve j < toneOf curve (j + 1) ∧ depthOf curve j ≤ depthOf curve (j + 1)

theorem risingCurve_of_valid {curve : List Entry} (h : imageFault .gradation curve = none) :
    RisingCurve curve (entryNat curve 0) := by
  obtain ⟨n, h2, -, hlength, hcount, hfirst, hlast, hdeepest, hrises⟩ := (gradationFault_eq_none curve).mp h
  have hn : entryNat curve 0 = n := by rw [entryNat, entryInt, hcount, Int.toNat_natCast]
  have hsub : n - 1 + 1 = n := by omega
  rw [hn]
  exact ⟨h2, hlength, hn, hfirst, by rw [toneOf, hsub, hlast], by rw [depthOf, hsub]; exact hdeepest,
    fun j hj => hrises (j + 1) (by omega) hj⟩

/-- The breakpoints from j on, m of them. -/
def pointsFrom (curve : List Entry) (j m : Nat) : List (Nat × Nat) :=
  (List.range' j m).map (fun i => (toneOf curve i, depthOf curve i))

theorem pointsFrom_succ (curve : List Entry) (j m : Nat) :
    pointsFrom curve j (m + 1) = (toneOf curve j, depthOf curve j) :: pointsFrom curve (j + 1) m := by
  rw [pointsFrom, List.range'_succ, List.map_cons, pointsFrom]

theorem lastDepth_pointsFrom (curve : List Entry) (j m : Nat) :
    lastDepth (pointsFrom curve j (m + 1)) = depthOf curve (j + m) := by
  induction m generalizing j with
  | zero => rfl
  | succ m ih =>
    have hnext := ih (j + 1)
    rw [pointsFrom_succ] at hnext
    rw [pointsFrom_succ, pointsFrom_succ, lastDepth, hnext]
    · congr 1
      omega
    · exact nofun

/-! ## The interpolation in one segment -/

/-- The interpolation of R82 in the segment from breakpoint j to the next. -/
def interpolated (curve : List Entry) (j v : Nat) : Nat :=
  depthOf curve j + (v - toneOf curve j) * (depthOf curve (j + 1) - depthOf curve j) /
    (toneOf curve (j + 1) - toneOf curve j)

/-- At the breakpoint the fraction is zero. -/
theorem interpolated_at_breakpoint (curve : List Entry) (j : Nat) :
    interpolated curve j (toneOf curve j) = depthOf curve j := by
  rw [interpolated, Nat.sub_self, Nat.zero_mul, Nat.zero_div, Nat.add_zero]

theorem interpolated_mono (curve : List Entry) (j : Nat) {v w : Nat} (hvw : v ≤ w) :
    interpolated curve j v ≤ interpolated curve j w :=
  Nat.add_le_add_left (Nat.div_le_div_right (Nat.mul_le_mul_right _ (Nat.sub_le_sub_right hvw _))) _

/-- Before the end of a segment that is not flat the interpolation stays below the depth of the end. -/
theorem interpolated_lt_end {curve : List Entry} {j v : Nat} (hlo : toneOf curve j ≤ v)
    (hhi : v < toneOf curve (j + 1)) (hdeeper : depthOf curve j < depthOf curve (j + 1)) :
    interpolated curve j v < depthOf curve (j + 1) := by
  have hfraction : (v - toneOf curve j) * (depthOf curve (j + 1) - depthOf curve j) /
      (toneOf curve (j + 1) - toneOf curve j) < depthOf curve (j + 1) - depthOf curve j :=
    Nat.div_lt_of_lt_mul (Nat.mul_lt_mul_of_pos_right (by omega) (by omega))
  rw [interpolated]
  omega

theorem interpolated_of_flat {curve : List Entry} {j : Nat} (v : Nat)
    (hflat : depthOf curve j = depthOf curve (j + 1)) : interpolated curve j v = depthOf curve (j + 1) := by
  rw [interpolated, hflat, Nat.sub_self, Nat.mul_zero, Nat.zero_div, Nat.add_zero]

section Curve

variable {curve : List Entry} {n : Nat} (hc : RisingCurve curve n)
include hc

theorem breakpoints_eq_pointsFrom : breakpoints curve = pointsFrom curve 0 n := by
  have hlength := hc.length
  refine List.ext_getElem ?_ (fun j hj _ => ?_)
  · simp [breakpoints, pointsFrom, hc.count, hlength]
  · have hin : 1 + j < curve.length := by
      simp [breakpoints] at hj
      omega
    simp [breakpoints, pointsFrom, toneOf, depthOf, entryAt, Nat.add_comm j 1, hin]

theorem RisingCurve.toneOf_le {j k : Nat} (hjk : j ≤ k) (hk : k < n) : toneOf curve j ≤ toneOf curve k := by
  induction k, hjk using Nat.le_induction with
  | base => exact le_rfl
  | succ k _ ih => exact (ih (by omega)).trans (hc.rises k hk).1.le

theorem RisingCurve.depthOf_le {j k : Nat} (hjk : j ≤ k) (hk : k < n) : depthOf curve j ≤ depthOf curve k := by
  induction k, hjk using Nat.le_induction with
  | base => exact le_rfl
  | succ k _ ih => exact (ih (by omega)).trans (hc.rises k hk).2

theorem RisingCurve.interpolated_le_end {j v : Nat} (hj : j + 1 < n) (hlo : toneOf curve j ≤ v)
    (hhi : v < toneOf curve (j + 1)) : interpolated curve j v ≤ depthOf curve (j + 1) := by
  rcases (hc.rises j hj).2.eq_or_lt with hflat | hdeeper
  · exact (interpolated_of_flat v hflat).le
  · exact (interpolated_lt_end hlo hhi hdeeper).le

/-! ## The depth of a tone -/

/-- The search from breakpoint j on passes over the segments that end at or below the tone. -/
theorem segmentDepth_pointsFrom {j k m v : Nat} (hjk : j ≤ k) (hk : k + 1 < j + m) (hm : j + m ≤ n)
    (hlo : toneOf curve k ≤ v) (hhi : v < toneOf curve (k + 1)) :
    segmentDepth v (pointsFrom curve j m) = interpolated curve k v := by
  induction m generalizing j with
  | zero => omega
  | succ m ih =>
    obtain ⟨m, rfl⟩ : ∃ i, m = i + 1 := ⟨m - 1, by omega⟩
    rw [pointsFrom_succ, pointsFrom_succ, segmentDepth]
    rcases hjk.eq_or_lt with rfl | hlt
    · exact if_pos hhi
    · have hpassed : toneOf curve (j + 1) ≤ v := (hc.toneOf_le hlt (by omega)).trans hlo
      rw [if_neg (Nat.not_lt.mpr hpassed), ← pointsFrom_succ, ih hlt (by omega) (by omega)]

theorem gradationDepth_of_segment {j v : Nat} (hj : j + 1 < n) (hlo : toneOf curve j ≤ v)
    (hhi : v < toneOf curve (j + 1)) : gradationDepth curve v = interpolated curve j v := by
  have hend : toneOf curve (j + 1) ≤ 1000 := hc.last ▸ hc.toneOf_le (by omega) (by omega)
  rw [gradationDepth, if_neg (by omega), breakpoints_eq_pointsFrom hc]
  exact segmentDepth_pointsFrom hc (Nat.zero_le j) (by omega) (by omega) hlo hhi

theorem gradationDepth_full_tone : gradationDepth curve 1000 = depthOf curve (n - 1) := by
  have h2 := hc.two_le
  have hlast := lastDepth_pointsFrom curve 0 (n - 1)
  rw [Nat.sub_add_cancel (by omega), Nat.zero_add] at hlast
  rw [gradationDepth, if_pos rfl, breakpoints_eq_pointsFrom hc, hlast]

theorem gradationDepth_at_breakpoint {j : Nat} (hj : j < n) :
    gradationDepth curve (toneOf curve j) = depthOf curve j := by
  by_cases hnext : j + 1 < n
  · rw [gradationDepth_of_segment hc hnext le_rfl (hc.rises j hnext).1, interpolated_at_breakpoint]
  · obtain rfl : j = n - 1 := by omega
    rw [hc.last, gradationDepth_full_tone hc]

/-- Every tone below 1000 lies in a segment. -/
theorem exists_segment {v : Nat} (hv : v < 1000) :
    ∃ j, j + 1 < n ∧ toneOf curve j ≤ v ∧ v < toneOf curve (j + 1) := by
  have hbelow : ∀ k, k < n → v < toneOf curve k →
      ∃ j, j + 1 < n ∧ toneOf curve j ≤ v ∧ v < toneOf curve (j + 1) := by
    intro k
    induction k with
    | zero => exact fun _ hv0 => absurd hv0 (by rw [hc.first]; exact Nat.not_lt_zero v)
    | succ k ih =>
      intro hk hvk
      rcases Nat.lt_or_ge v (toneOf curve k) with hlt | hge
      · exact ih (by omega) hlt
      · exact ⟨k, hk, hge, hvk⟩
  have h2 := hc.two_le
  exact hbelow (n - 1) (by omega) (hc.last ▸ hv)

/-- A tone at or above a breakpoint is at least as deep. -/
theorem depthOf_le_gradationDepth {j v : Nat} (hj : j < n) (hlo : toneOf curve j ≤ v) (hv : v ≤ 1000) :
    depthOf curve j ≤ gradationDepth curve v := by
  rcases hv.eq_or_lt with rfl | hlt
  · rw [gradationDepth_full_tone hc]
    exact hc.depthOf_le (by omega) (by omega)
  · obtain ⟨k, hk, hklo, hkhi⟩ := exists_segment hc hlt
    have hjk : j ≤ k := by
      by_contra hkj
      have hpast : toneOf curve (k + 1) ≤ toneOf curve j := hc.toneOf_le (Nat.lt_of_not_le hkj) hj
      omega
    rw [gradationDepth_of_segment hc hk hklo hkhi, interpolated]
    exact (hc.depthOf_le hjk (by omega)).trans (Nat.le_add_right _ _)

/-- The depth does not fall as the tone rises: both tones lie in one segment, or a breakpoint lies between them. -/
theorem gradationDepth_mono {v w : Nat} (hvw : v ≤ w) (hw : w ≤ 1000) :
    gradationDepth curve v ≤ gradationDepth curve w := by
  rcases (hvw.trans hw).eq_or_lt with rfl | hlt
  · rw [Nat.le_antisymm hw hvw]
  · obtain ⟨j, hj, hlo, hhi⟩ := exists_segment hc hlt
    rw [gradationDepth_of_segment hc hj hlo hhi]
    rcases Nat.lt_or_ge w (toneOf curve (j + 1)) with hsame | hbeyond
    · rw [gradationDepth_of_segment hc hj (hlo.trans hvw) hsame]
      exact interpolated_mono curve j hvw
    · exact (hc.interpolated_le_end hj hlo hhi).trans (depthOf_le_gradationDepth hc hj hbeyond hw)

end Curve

/-- Settles O33, by the segment that holds the tone. -/
theorem gradationInterpolatesExactlyAndInOrder : Obligations.GradationInterpolatesExactlyAndInOrder := by
  intro curve hvalid n depth
  have hc : RisingCurve curve n := risingCurve_of_valid hvalid
  have hfirst : ∀ v, toneOf curve 0 ≤ v := fun v => hc.first.le.trans (Nat.zero_le v)
  have h2 : 2 ≤ n := hc.two_le
  refine ⟨gradationDepth_full_tone hc, fun j v hj hlo hhi => ?_, fun j hj => gradationDepth_at_breakpoint hc hj,
    fun v w hvw hw => gradationDepth_mono hc hvw hw, fun v hv => ?_⟩
  · have hdepth : depth v = interpolated curve j v := gradationDepth_of_segment hc hj hlo hhi
    rw [hdepth]
    refine ⟨rfl, Nat.le_add_right _ _, hc.interpolated_le_end hj hlo hhi, fun hend => ?_⟩
    rcases (hc.rises j hj).2.eq_or_lt with hflat | hdeeper
    · exact hflat
    · exact absurd hend (interpolated_lt_end hlo hhi hdeeper).ne
  · have hdeepest : depth v ≤ depthOf curve (n - 1) :=
      gradationDepth_full_tone hc ▸ gradationDepth_mono hc hv le_rfl
    exact ⟨depthOf_le_gradationDepth hc (by omega) (hfirst v) hv, hdeepest, hdeepest.trans hc.deepest⟩

end Sys2Proof.Machine
end

section
/-! The word of a cell (O34). -/

namespace Sys2Proof.Machine

open Sys2Proof.Claims

/-! ## The stages (R84 to R88) -/

/-- A clamp into a range that is not empty, with its two marks. -/
theorem clampInt_eq {lo hi : Int} (v : Int) (h : lo ≤ hi) :
    clampInt lo hi v = (max lo (min hi v), decide (v < lo), decide (hi < v)) := by
  unfold clampInt
  split_ifs with hlow hhigh
  · simp [hlow, hlow.le, hlow.le.trans h]
  · simp [hlow, hhigh, hhigh.le, h]
  · simp [hlow, hhigh, not_lt.mp hlow, not_lt.mp hhigh]

/-- The depth of a cut cell before the clamp: runout and wear offset added (R85, R86). -/
def compensated (hc curve : List Entry) (ring : Option (List Entry)) (e a w v : Nat) : Int :=
  gradationDepth curve v + runoutOf ring a e + (wearOffset w (hcWearRate hc) (hcWearCap hc) : Nat)

/-- The code of a depth clamped into the range of the head (R87, R88). -/
def codeOfDepth (hc : List Entry) (sum : Int) : Int :=
  driveCode (hcGain hc) (hcBase hc) (max (hcCutoff hc) (min (hcMaxDepth hc) sum))

section Cell

variable {hc curve : List Entry} {ring : Option (List Entry)} {e a w v : Nat}

theorem computeCell_closed (hd : (gradationDepth curve v : Int) < hcCutoff hc) :
    computeCell hc curve ring e a w v = ⟨hcLift hc, true, false, false, false⟩ :=
  if_pos hd

theorem computeCell_cut (hrange : hcCutoff hc ≤ hcMaxDepth hc) (hd : hcCutoff hc ≤ (gradationDepth curve v : Int)) :
    computeCell hc curve ring e a w v =
      { word := (max 0 (min 4095 (codeOfDepth hc (compensated hc curve ring e a w v)))).toNat
        closed := false
        lowClamp := decide (compensated hc curve ring e a w v < hcCutoff hc)
        highClamp := decide (hcMaxDepth hc < compensated hc curve ring e a w v)
        codeClamp := decide (codeOfDepth hc (compensated hc curve ring e a w v) < 0 ∨
          4095 < codeOfDepth hc (compensated hc curve ring e a w v)) } := by
  rw [computeCell, if_neg (not_lt.mpr hd)]
  simp only [clampInt_eq _ hrange, clampInt_eq _ (by decide : (0 : Int) ≤ 4095), Bool.decide_or]
  rfl

end Cell

theorem cellWordFollowsFiveStages : CellWordFollowsFiveStages := by
  intro hc curve ring e a w v hrange d0 runout sum d1 code
  refine ⟨computeCell_closed, fun hd => ?_⟩
  rw [computeCell_cut hrange hd]
  rfl

/-! ## Range and order of the words -/

/-- With a gain that is not negative the code does not fall as the depth rises. -/
theorem codeOfDepth_mono {hc : List Entry} (hgain : 0 ≤ hcGain hc) {x y : Int} (hxy : x ≤ y) :
    codeOfDepth hc x ≤ codeOfDepth hc y := by
  have hclamped : max (hcCutoff hc) (min (hcMaxDepth hc) x) ≤ max (hcCutoff hc) (min (hcMaxDepth hc) y) :=
    max_le_max_left _ (min_le_min_left _ hxy)
  have hproduct := Int.mul_le_mul_of_nonneg_right hclamped hgain
  have hrounded := Int.ediv_le_ediv (by decide : (0 : Int) < 1024) (Int.add_le_add_right hproduct 512)
  exact Int.add_le_add_left hrounded _

/-- What the order of the words needs of a committed head calibration (R3, R14). -/
theorem headcal_bounds {hc : List Entry} (h : imageFault .headcal hc = none) :
    0 ≤ hcGain hc ∧ hcCutoff hc ≤ hcMaxDepth hc ∧ hcLift hc ≤ 4095 := by
  obtain ⟨-, hgain, -, -, -, -, hrange, -, -, hlift, -⟩ := (headcalFault_eq_none hc).mp h
  exact ⟨(by decide : (0 : Int) ≤ 256).trans hgain, hrange, Int.toNat_le.mpr hlift⟩

theorem computeCell_word_le {hc : List Entry} (h : imageFault .headcal hc = none) (curve : List Entry)
    (ring : Option (List Entry)) (e a w v : Nat) : (computeCell hc curve ring e a w v).word ≤ 4095 := by
  obtain ⟨-, hrange, hlift⟩ := headcal_bounds h
  rcases lt_or_ge (gradationDepth curve v : Int) (hcCutoff hc) with hclosed | hcut
  · rw [computeCell_closed hclosed]
    exact hlift
  · rw [computeCell_cut hrange hcut]
    exact Int.toNat_le.mpr (max_le (by decide) (min_le_left _ _))

theorem cutWordsKeepOrderOfTones : CutWordsKeepOrderOfTones := by
  intro hc curve ring e a w u v hhead hcurve huv hv low high
  refine ⟨computeCell_word_le hhead curve ring e a w u, fun hopen => ?_⟩
  obtain ⟨hgain, hrange, -⟩ := headcal_bounds hhead
  have hdepth : (gradationDepth curve u : Int) ≤ gradationDepth curve v :=
    Int.ofNat_le.mpr (gradationDepth_mono (risingCurve_of_valid hcurve) huv hv)
  have hcut : hcCutoff hc ≤ (gradationDepth curve u : Int) := by
    by_contra hbelow
    have hclosed : low = ⟨hcLift hc, true, false, false, false⟩ := computeCell_closed (not_le.mp hbelow)
    rw [hclosed] at hopen
    cases hopen
  have hsum : compensated hc curve ring e a w u ≤ compensated hc curve ring e a w v :=
    Int.add_le_add_right (Int.add_le_add_right hdepth _) _
  simp only [low, high]
  rw [computeCell_cut hrange hcut, computeCell_cut hrange (hcut.trans hdepth)]
  exact ⟨rfl, Int.toNat_le_toNat (max_le_max_left _ (min_le_min_left _ (codeOfDepth_mono hgain hsum)))⟩

/-- Settles O34: the stages one by one, each of them non-decreasing in the tone. -/
theorem cellWordFollowsStagesAndKeepsOrder : Obligations.CellWordFollowsStagesAndKeepsOrder :=
  ⟨cellWordFollowsFiveStages, cutWordsKeepOrderOfTones⟩

end Sys2Proof.Machine
end

section
/-! A forward count at one channel: the stroke taken whole (O36). -/

namespace Sys2Proof.Machine

open Sys2Proof.Claims

/-! ## Two updates of one head -/

theorem PerHead.set_set {α : Type} (p : PerHead α) (h : Head) (a b : α) : (p.set h a).set h b = p.set h b := by
  match h with
  | 0 => rfl
  | 1 => rfl
  | 2 => rfl
  | 3 => rfl

theorem State.updChannel_updChannel (h : Head) (f g : Channel → Channel) (s : State) :
    (s.updChannel h f).updChannel h g = s.updChannel h (fun c => g (f c)) := by
  simp only [State.updChannel, PerHead.get_set_same, PerHead.set_set]

theorem State.updCounters_updCounters (h : Head) (f g : HeadCounters → HeadCounters) (s : State) :
    (s.updCounters h f).updCounters h g = s.updCounters h (fun n => g (f n)) := by
  simp only [State.updCounters, Rpt.updHead, PerHead.get_set_same, PerHead.set_set]

/-- An update that keeps the counters of a head changes nothing. -/
theorem State.updCounters_id (h : Head) (s : State) : s.updCounters h (fun n => n) = s := by
  simp only [State.updCounters, Rpt.updHead, PerHead.set_get_self]

theorem State.updQueue_id (h : Head) (s : State) : s.updQueue h (fun q => q) = s := by
  simp only [State.updQueue, PerHead.set_get_self]

/-! ## The channel and the monitor of a stroke -/

/-- The channel of a head after a stroke: the port, the wear of a cut cell, the cell index and the tag. -/
def Channel.struck (acc : Nat) (k : Stroke) (c : Channel) : Channel :=
  { c with
    accumulator := acc, cellIndex := c.cellIndex + 1, tag := c.tag + 1
    portWord := BitVec.ofNat 12 k.word, portTag := c.tag, strobes := c.strobes + 1
    wearSub := if k.closed then c.wearSub else c.wearSub + 1
    wear := if k.closed = false ∧ c.wearSub = 65535 then min 65535 (c.wear + 1) else c.wear }

/-- The wear sub-count wraps exactly from its largest value. -/
theorem wearSub_wraps_iff (n : BitVec 16) : n + 1#16 = 0#16 ↔ n = 65535#16 := by
  bv_omega

theorem Channel.emitted_eq_struck (acc : Nat) (k : Stroke) (c : Channel) :
    (Channel.countWear k.closed (Channel.present k.word { c with accumulator := acc })).advance = c.struck acc k := by
  cases hk : k.closed <;>
    simp [Channel.struck, Channel.countWear, Channel.present, Channel.advance, hk, wearSub_wraps_iff]

/-- The next stroke pushes an unmatched entry out of the history, which is full. -/
def Monitor.misses (m : Monitor) : Bool :=
  decide (16 ≤ m.history.length) && m.history.head?.any (fun e => !e.matched)

theorem Monitor.missingEntry_of_misses {m : Monitor} (hm : m.misses = true) :
    ∃ e, m.history.head? = some e ∧ missingEntry m.history = some e := by
  unfold Monitor.misses at hm
  cases hh : m.history with
  | nil =>
    rw [hh] at hm
    cases hm
  | cons e rest =>
    rw [hh] at hm
    exact ⟨e, rfl, if_pos hm⟩

theorem Monitor.missingEntry_of_not_misses {m : Monitor} (hm : m.misses = false) : missingEntry m.history = none := by
  unfold Monitor.misses at hm
  cases hh : m.history with
  | nil => rfl
  | cons e rest =>
    rw [hh] at hm
    exact if_neg (Bool.eq_false_iff.mp hm)

theorem Monitor.missingEntry_isSome (m : Monitor) : (missingEntry m.history).isSome = m.misses := by
  cases hm : m.misses with
  | false => rw [Monitor.missingEntry_of_not_misses hm, Option.isSome_none]
  | true =>
    obtain ⟨e, -, he⟩ := Monitor.missingEntry_of_misses hm
    rw [he, Option.isSome_some]

theorem Monitor.losesStroke_eq (m : Monitor) :
    m.losesStroke = (m.misses && decide (64 ≤ m.missingRun + 1)) := by
  rw [Monitor.losesStroke, m.missingEntry_isSome]
  rfl

theorem Monitor.enter_eq (e : HistoryEntry) (m : Monitor) :
    m.enter e =
      { m with
        history := (if decide (16 ≤ m.history.length) then m.history.drop 1 else m.history) ++ [e]
        missingRun := if m.losesStroke then 0 else if m.misses then m.missingRun + 1 else m.missingRun } := by
  have hhistory : pushEntry e m.history =
      (if decide (16 ≤ m.history.length) then m.history.drop 1 else m.history) ++ [e] := by
    rw [pushEntry, Config.historyCapacity, ← apply_ite (· ++ [e])]
    simp only [decide_eq_true_eq]
  have hnone : (missingEntry m.history).isNone = !m.misses := by
    rw [← m.missingEntry_isSome, Option.not_isSome]
  rw [Monitor.enter, hhistory, hnone, m.losesStroke_eq]
  cases m.misses <;> simp [Config.missingLimit]

/-- The counters of a head after a stroke entered its monitor: a missing entry, and a stylus fault (R125, R131). -/
def Monitor.countEntered (m : Monitor) (n : HeadCounters) : HeadCounters :=
  { n with
    cells := if m.misses then { n.cells with missing := min 16777215 (n.cells.missing + 1) } else n.cells
    stylusFaults := if m.losesStroke then n.stylusFaults + 1 else n.stylusFaults }

theorem Monitor.countEntered_of_not_misses {m : Monitor} (hm : m.misses = false) : m.countEntered = fun n => n := by
  have hkept : m.losesStroke = false := by rw [m.losesStroke_eq, hm, Bool.false_and]
  funext n
  rw [Monitor.countEntered, hm, hkept]
  rfl

theorem Monitor.countEntered_of_misses {m : Monitor} (hm : m.misses = true) :
    m.countEntered = fun n =>
      { n with
        cells := { n.cells with missing := cellStep n.cells.missing }
        stylusFaults := if m.losesStroke then n.stylusFaults + 1 else n.stylusFaults } := by
  funext n
  rw [Monitor.countEntered, hm]
  rfl

/-- The MONITOR_LOST of a head's next stroke, which names the entry pushed out (R131). -/
def State.lostEvent (h : Head) (s : State) : Event :=
  .stylusFault h .monitorLost ((s.monitors.get h).missingRun + 1)
    (((s.monitors.get h).history.head?.map (·.tag)).getD 0) none (s.channelState h) (s.faultAction h)

/-! ## The stroke -/

/-- The state with a stroke entered into the monitor of a head, before a MONITOR_LOST is posted. -/
def State.withEntered (h : Head) (word : Nat) (closed : Bool) (s : State) : State :=
  (s.updMonitor h (Monitor.enter ⟨(s.channels.get h).tag, word, closed, false⟩)).updCounters h
    (s.monitors.get h).countEntered

theorem State.enterStroke_eq (h : Head) (word : Nat) (closed : Bool) (s : State) :
    s.enterStroke h word closed =
      if (s.monitors.get h).losesStroke then (s.withEntered h word closed).post (s.lostEvent h)
      else s.withEntered h word closed := by
  unfold State.enterStroke
  dsimp only
  cases hm : (s.monitors.get h).misses with
  | false =>
    have hkept : (s.monitors.get h).losesStroke = false := by rw [Monitor.losesStroke_eq, hm, Bool.false_and]
    rw [Monitor.missingEntry_of_not_misses hm, hkept, if_neg Bool.false_ne_true, State.withEntered,
      Monitor.countEntered_of_not_misses hm, State.updCounters_id]
  | true =>
    obtain ⟨e, hhead, he⟩ := Monitor.missingEntry_of_misses hm
    have htag : ((s.monitors.get h).history.head?.map (·.tag)).getD 0 = e.tag := by
      rw [hhead]
      rfl
    rw [he, State.lostEvent, htag, State.withEntered, Monitor.countEntered_of_misses hm]
    dsimp only
    cases (s.monitors.get h).losesStroke with
    | false => rfl
    | true =>
      exact congrArg (State.post _) (State.updCounters_updCounters h
        (fun n => { n with cells := { n.cells with missing := cellStep n.cells.missing } }) _ _)

/-- The state after a stroke of a head, before a MONITOR_LOST is posted. -/
def State.withStroke (h : Head) (acc : Nat) (k : Stroke) (count : CellCounters → CellCounters) (q : Queue)
    (s : State) : State :=
  (((s.updChannel h (Channel.struck acc k)).updQueue h (fun _ => q)).updMonitor h
    (Monitor.enter ⟨(s.channels.get h).tag, k.word, k.closed, false⟩)).updCounters h
      (fun n => (s.monitors.get h).countEntered { n with cells := count n.cells })

theorem struck_eq (h : Head) (acc : Nat) (k : Stroke) (count : CellCounters → CellCounters) (q : Queue) (s : State) :
    struck h acc k count q s =
      if (s.monitors.get h).losesStroke then (s.withStroke h acc k count q).post (s.lostEvent h)
      else s.withStroke h acc k count q := by
  have hmisses : (decide (16 ≤ (s.monitors.get h).history.length) &&
      (s.monitors.get h).history.head?.any (fun e => !e.matched)) = (s.monitors.get h).misses := rfl
  rw [State.withStroke, State.updMonitor, Monitor.enter_eq]
  unfold struck
  dsimp only
  rw [hmisses, ← Monitor.losesStroke_eq]
  rfl

theorem State.emit_eq_struck (h : Head) (acc : Nat) (k : Stroke) (count : CellCounters → CellCounters)
    (f : Queue → Queue) (s : State) :
    (((s.setAccumulator h acc).updCells h count).updQueue h f).emit h k =
      struck h acc k count (f (s.queues.get h)) s := by
  let presented : State :=
    (((s.setAccumulator h acc).updCells h count).updQueue h f).updChannel h (Channel.present k.word)
  have hmonitor : presented.monitors.get h = s.monitors.get h := rfl
  have hchannel : presented.channels.get h = Channel.present k.word { s.channels.get h with accumulator := acc } := by
    simp [presented, State.setAccumulator]
  have hevent : presented.lostEvent h = s.lostEvent h := by
    simp only [State.lostEvent, State.faultAction, State.channelState, hchannel, hmonitor]
    rfl
  have hstroke : ((presented.withEntered h k.word k.closed).updChannel h (Channel.countWear k.closed)).updChannel h
      Channel.advance = s.withStroke h acc k count (f (s.queues.get h)) := by
    simp only [presented, State.withEntered, State.withStroke, State.setAccumulator, State.updChannel,
      State.updQueue, State.updMonitor, State.updCounters, State.updCells, Rpt.updCells, Rpt.updHead,
      PerHead.get_set_same, PerHead.set_set, Channel.emitted_eq_struck]
    rfl
  show (State.updChannel h (Channel.countWear k.closed) (presented.enterStroke h k.word k.closed)).updChannel h
    Channel.advance = _
  rw [struck_eq, State.enterStroke_eq, hmonitor, hevent, ← hstroke]
  split <;> rfl

/-- A stroke of a test cut: no cell counter, and no record. -/
theorem State.emit_eq_struck_alone (h : Head) (acc : Nat) (k : Stroke) (s : State) :
    (s.setAccumulator h acc).emit h k = struck h acc k (fun n => n) (s.queues.get h) s := by
  have hcells : (s.setAccumulator h acc).updCells h (fun n => n) = s.setAccumulator h acc := State.updCounters_id h _
  rw [← s.emit_eq_struck h acc k (fun n => n) (fun q => q), hcells, State.updQueue_id]

/-! ## What a channel cuts -/

theorem State.cutOf_track {h : Head} {s : State} {r : TrackRecord} {rest : List TrackRecord} {mean s1 s2 : Nat}
    (hstate : s.channelState h = .cutting) (hrecords : (s.queues.get h).records = r :: rest)
    (hr : r.state = .cutting mean s1 s2) : s.cutOf h = .track r := by
  have hprogress : (s.queues.get h).inProgress = some r := by
    simp [Queue.inProgress, hrecords, TrackRecord.isCutting, hr]
  rw [State.cutOf, hstate]
  dsimp only
  rw [hprogress]

theorem State.cutOf_test {h : Head} {s : State} {u : CalSetup} (hstate : s.channelState h = .calibrating)
    (hphase : (s.cals.get h).phase = .cut u) : s.cutOf h = .test u := by
  rw [State.cutOf, hstate]
  dsimp only
  rw [hphase]

theorem State.cutOf_nothing {h : Head} {s : State} (hcutting : s.channelState h ≠ .cutting)
    (hcal : ∀ u, s.channelState h = .calibrating → (s.cals.get h).phase ≠ .cut u) : s.cutOf h = .nothing := by
  unfold State.cutOf
  cases hstate : s.channelState h with
  | cutting => exact absurd hstate hcutting
  | calibrating =>
    cases hphase : (s.cals.get h).phase with
    | cut u => exact absurd hphase (hcal u hstate)
    | none | waitIndex | awaitMeasure => rfl
  | off | primed | waiting | done | parked | halted => rfl

/-- A word advances the sums of the record at the queue head (R90). -/
theorem Queue.updHead_addWord {q : Queue} {r : TrackRecord} {rest : List TrackRecord} {mean s1 s2 : Nat}
    (hrecords : q.records = r :: rest) (hr : r.state = .cutting mean s1 s2) (word : Nat) :
    q.updHead (TrackRecord.addWord word) =
      { q with
        records := { r with
          state := .cutting mean ((s1 + word) % 65535) ((s2 + (s1 + word) % 65535) % 65535) } :: rest } := by
  simp only [Queue.updHead, hrecords, TrackRecord.addWord, hr, sumStep]

/-! ## The count -/

theorem countAtCuttingChannelStrokesItsCell : CountAtCuttingChannelStrokesItsCell := by
  intro h angle s r rest mean s1 s2 hstate hrecords hr c
  have hcount : s.countHead angle h = s.trackCount h r angle := by
    rw [State.countHead, State.cutOf_track hstate hrecords hr]
  rw [hcount, State.trackCount]
  refine ⟨fun hpast => if_neg (Nat.not_lt.mpr hpast), fun hcell hbelow => ?_, fun hcell hreached => ?_⟩
  · rw [if_pos hcell, if_pos hbelow]
    rfl
  · rw [if_pos hcell, if_neg (Nat.not_lt.mpr hreached)]
    dsimp only
    rw [State.emit_eq_struck, Queue.updHead_addWord hrecords hr]
    rfl

theorem countAtCalibratingChannelStrokesPattern : CountAtCalibratingChannelStrokesPattern := by
  intro h angle s
  refine ⟨?_, fun hcutting hcal => ?_⟩
  · intro u hstate hphase c k
    have hcount : s.countHead angle h = s.testCount h u := by
      rw [State.countHead, State.cutOf_test hstate hphase]
    rw [hcount, State.testCount]
    refine ⟨fun hpast => if_neg (Nat.not_lt.mpr hpast), fun hcell hbelow => ?_, fun hcell hreached => ?_⟩
    · rw [if_pos hcell, if_pos hbelow]
      rfl
    · rw [if_pos hcell, if_neg (Nat.not_lt.mpr hreached), State.emit_eq_struck_alone]
      rfl
  · rw [State.countHead, State.cutOf_nothing hcutting hcal]

/-- Settles O36: a stroke is `struck`, by what the channel cuts. -/
theorem countStrokesTrackOrPattern : Obligations.CountStrokesTrackOrPattern :=
  ⟨countAtCuttingChannelStrokesItsCell, countAtCalibratingChannelStrokesPattern⟩

end Sys2Proof.Machine
end

section
/-! The strokes of a revolution (O35). -/

namespace Sys2Proof.Machine

open Sys2Proof.Claims

/-! ## The stroke generator as a step on the cell index and the accumulator -/

/-- The cell index and the accumulator of a channel. -/
def Channel.generator (c : Channel) : Nat × Nat := (c.cellIndex, c.accumulator)

/-- A forward count at the stroke generator of a channel that cuts c cells at e counts (R74, R80). -/
def generatorStep (e c : Nat) (p : Nat × Nat) : Nat × Nat :=
  if p.1 < c then if p.2 + c < e then (p.1, p.2 + c) else (p.1 + 1, p.2 + c - e) else p

theorem struck_generator (h : Head) (acc : Nat) (k : Stroke) (count : CellCounters → CellCounters) (q : Queue)
    (s : State) :
    ((struck h acc k count q s).channels.get h).generator = ((s.channels.get h).cellIndex + 1, acc) := by
  have hchannels : (s.withStroke h acc k count q).channels.get h = (s.channels.get h).struck acc k := by
    simp [State.withStroke]
  rw [struck_eq]
  split
  · rw [State.post_channels, hchannels]
    rfl
  · rw [hchannels]
    rfl

theorem State.setAccumulator_generator (h : Head) (v : Nat) (s : State) :
    ((s.setAccumulator h v).channels.get h).generator = ((s.channels.get h).cellIndex, v) := by
  simp [State.setAccumulator, Channel.generator]

/-- A count that moves the accumulator below e and otherwise strokes is a step of the generator. -/
theorem State.generator_of_branches (h : Head) (c : Nat) (s t : State)
    (ht : (t.channels.get h).generator =
      ((s.channels.get h).cellIndex + 1, (s.channels.get h).accumulator + c - s.counts)) :
    (State.channels (if (s.channels.get h).cellIndex < c then
        if (s.channels.get h).accumulator + c < s.counts then s.setAccumulator h ((s.channels.get h).accumulator + c)
        else t
      else s) |>.get h).generator = generatorStep s.counts c (s.channels.get h).generator := by
  show _ = if (s.channels.get h).cellIndex < c then
      if (s.channels.get h).accumulator + c < s.counts then
        ((s.channels.get h).cellIndex, (s.channels.get h).accumulator + c)
      else ((s.channels.get h).cellIndex + 1, (s.channels.get h).accumulator + c - s.counts)
    else (s.channels.get h).generator
  split
  · split
    · exact s.setAccumulator_generator h _
    · exact ht
  · rfl

/-- A count at a channel that cuts is a step of its generator. -/
theorem State.countHead_generator {h : Head} {c : Nat} {s : State} (hcuts : cutsCells h c s) (angle : Nat) :
    ((s.countHead angle h).channels.get h).generator = generatorStep s.counts c (s.channels.get h).generator := by
  rw [State.cutsCells_iff] at hcuts
  unfold State.countHead
  cases hcut : s.cutOf h with
  | nothing =>
    rw [hcut] at hcuts
    cases hcuts
  | track r =>
    rw [hcut] at hcuts
    obtain rfl : s.jobCells = c := Option.some.inj hcuts
    simp only [State.trackCount, State.emit_eq_struck]
    exact s.generator_of_branches h _ _ (struck_generator h _ _ _ _ s)
  | test u =>
    rw [hcut] at hcuts
    obtain rfl : u.cells = c := Option.some.inj hcuts
    simp only [State.testCount, State.emit_eq_struck_alone]
    exact s.generator_of_branches h _ _ (struck_generator h _ _ _ _ s)

/-- A word added to the queue head leaves a track in progress in progress. -/
theorem Queue.updHead_addWord_inProgress (q : Queue) (word : Nat) :
    (q.updHead (TrackRecord.addWord word)).inProgress.isSome = q.inProgress.isSome := by
  unfold Queue.updHead Queue.inProgress
  cases hrecords : q.records with
  | nil => simp [hrecords]
  | cons r rest => cases hr : r.state <;> simp [TrackRecord.addWord, TrackRecord.isCutting, hr]

theorem State.countHead_inProgress (angle : Nat) (h : Head) (s : State) :
    ((s.countHead angle h).queues.get h).inProgress.isSome = (s.queues.get h).inProgress.isSome := by
  unfold State.countHead
  cases s.cutOf h with
  | nothing => rfl
  | track r =>
    simp only [State.trackCount]
    split
    · split
      · rfl
      · obtain ⟨-, -, -, hqueues, -⟩ := State.emit_frame h (s.trackStroke h r angle) _
        rw [hqueues, State.updQueue_queues, PerHead.get_set_same, Queue.updHead_addWord_inProgress]
        rfl
    · rfl
  | test u =>
    obtain ⟨-, -, -, hqueues, -⟩ := s.testCount_frame h u
    rw [hqueues]

/-- A count leaves a channel cutting what it cuts. -/
theorem State.countHead_cutsCells (angle : Nat) {h : Head} {c : Nat} {s : State} (hcuts : cutsCells h c s) :
    cutsCells h c (s.countHead angle h) := by
  obtain ⟨hstore, -, hjob, hcals, -⟩ := s.countHead_frame angle h
  have hcells : (s.countHead angle h).jobCells = s.jobCells := by
    rw [State.jobCells, State.screenEntries, hstore, hjob, State.jobCells, State.screenEntries]
  unfold cutsCells at hcuts ⊢
  rw [← Queue.inProgress_isSome_iff] at hcuts ⊢
  rwa [State.countHead_inProgress, State.countHead_channelState, hcells, hcals]

theorem State.countHead_counts (angle : Nat) (h : Head) (s : State) : (s.countHead angle h).counts = s.counts := by
  obtain ⟨-, hctu, -⟩ := s.countHead_frame angle h
  rw [State.counts, hctu, State.counts]

theorem channelAfter_generator (h : Head) (c : Nat) (angles : List Nat) (s : State) (hcuts : cutsCells h c s) :
    (channelAfter h angles s).generator =
      (generatorStep s.counts c)^[angles.length] (s.channels.get h).generator := by
  induction angles generalizing s with
  | nil => rfl
  | cons angle rest ih =>
    have hrest := ih (s.countHead angle h) (State.countHead_cutsCells angle hcuts)
    rw [State.countHead_counts, State.countHead_generator hcuts] at hrest
    exact hrest

/-! ## The strokes of m counts -/

/-- What m counts from cell 0 and accumulator a have made of a generator of c cells at e counts: they are spent on
whole cells and the accumulator, or have reached the last cell. -/
structure Spread (e c a m : Nat) (p : Nat × Nat) : Prop where
  cells : p.1 ≤ c
  below : p.2 < e
  spent : p.1 < c → p.1 * e + p.2 = a + m * c
  full : p.1 = c → c * e ≤ a + m * c

theorem spread_step {e c a m : Nat} (hce : c ≤ e) {p : Nat × Nat} (hp : Spread e c a m p) :
    Spread e c a (m + 1) (generatorStep e c p) := by
  obtain ⟨k, acc⟩ := p
  obtain ⟨hcells, hbelow, hspent, hfull⟩ := hp
  dsimp only at hcells hbelow hspent hfull
  have hcount : (m + 1) * c = m * c + c := Nat.succ_mul m c
  have hcell : (k + 1) * e = k * e + e := Nat.succ_mul k e
  unfold generatorStep
  dsimp only
  split
  · rename_i hk
    have hsum := hspent hk
    split
    · exact ⟨hcells, ‹_›, fun _ => by dsimp only; omega, fun hc => by dsimp only at hc; omega⟩
    · refine ⟨hk, by dsimp only; omega, fun _ => by dsimp only; omega, fun hc => ?_⟩
      have hlast : c * e = (k + 1) * e := congrArg (· * e) hc.symm
      omega
  · exact ⟨hcells, hbelow, fun hk => absurd hk ‹_›, fun hc => (hfull hc).trans (by omega)⟩

theorem spread_iterate {e c a : Nat} (hc : 0 < c) (hce : c ≤ e) (ha : a < e) (m : Nat) :
    Spread e c a m ((generatorStep e c)^[m] (0, a)) := by
  induction m with
  | zero => exact ⟨Nat.zero_le c, ha, fun _ => by simp, fun h0 => absurd h0 hc.ne⟩
  | succ m ih =>
    rw [Function.iterate_succ_apply']
    exact spread_step hce ih

section Spread

variable {e c a m : Nat} {p : Nat × Nat} (hp : Spread e c a m p)
include hp

theorem Spread.div_mod_of_lt (hk : p.1 < c) : (a + m * c) / e = p.1 ∧ (a + m * c) % e = p.2 := by
  have he : 0 < e := (Nat.zero_le _).trans_lt hp.below
  rw [← hp.spent hk, Nat.add_comm, Nat.add_mul_div_right _ _ he, Nat.add_mul_mod_self_right,
    Nat.div_eq_of_lt hp.below, Nat.zero_add]
  exact ⟨rfl, Nat.mod_eq_of_lt hp.below⟩

theorem Spread.le_div_of_full (hk : p.1 = c) : c ≤ (a + m * c) / e := by
  have he : 0 < e := (Nat.zero_le _).trans_lt hp.below
  exact (Nat.le_div_iff_mul_le he).mpr (hp.full hk)

theorem Spread.cells_eq : p.1 = min c ((a + m * c) / e) := by
  rcases hp.cells.eq_or_lt with hfull | hlt
  · rw [min_eq_left (hp.le_div_of_full hfull), hfull]
  · rw [(hp.div_mod_of_lt hlt).1, min_eq_right hlt.le]

theorem Spread.acc_eq (hlt : (a + m * c) / e < c) : p.2 = (a + m * c) % e := by
  have hk : p.1 < c := by
    rw [hp.cells_eq, min_eq_right hlt.le]
    exact hlt
  exact (hp.div_mod_of_lt hk).2.symm

/-- The last cell is stroked at count e - floor(a / c). -/
theorem Spread.full_iff (hc : 0 < c) : p.1 = c ↔ e - a / c ≤ m := by
  have he : 0 < e := (Nat.zero_le _).trans_lt hp.below
  have hproduct : (e - m) * c = c * e - m * c := by rw [Nat.sub_mul, Nat.mul_comm e c]
  calc p.1 = c ↔ c ≤ (a + m * c) / e := by rw [hp.cells_eq, min_eq_left_iff]
    _ ↔ c * e ≤ a + m * c := Nat.le_div_iff_mul_le he
    _ ↔ (e - m) * c ≤ a := by rw [hproduct]; omega
    _ ↔ e - m ≤ a / c := (Nat.le_div_iff_mul_le hc).symm
    _ ↔ e - a / c ≤ m := tsub_le_iff_tsub_le

end Spread

/-- Settles O35: the counts of a revolution are spent on whole cells and the accumulator (`Spread`). -/
theorem strokesSpreadEvenlyOverRevolution : Obligations.StrokesSpreadEvenlyOverRevolution := by
  intro h c angles s hcuts hc hce hindex hacc e acc0 reached after
  have hstart : (s.channels.get h).generator = (0, acc0) := by rw [Channel.generator, hindex]
  have hafter : after.generator = (generatorStep e c)^[angles.length] (0, acc0) := by
    rw [← hstart]
    exact channelAfter_generator h c angles s hcuts
  have hspread : Spread e c acc0 angles.length after.generator := by
    rw [hafter]
    exact spread_iterate hc (by omega) hacc _
  refine ⟨hspread.cells_eq, hspread.below, hspread.acc_eq, fun hfrom => ?_⟩
  have hlo : c ≤ acc0 := by omega
  have hhi : acc0 ≤ e - c := by omega
  have hone : 1 ≤ acc0 / c := (Nat.one_le_div_iff hc).mpr hlo
  have hquotient : acc0 / c ≤ acc0 := Nat.div_le_self acc0 c
  exact ⟨hlo, hhi, by omega, by omega, hspread.full_iff hc⟩

end Sys2Proof.Machine
end

section
/-! The ENGAGE lines of the heads (O46). -/

namespace Sys2Proof.Machine

/-- A stroke leaves the ENGAGE line and the state of every channel. -/
theorem State.emit_engage (h k : Head) (stroke : Stroke) (s : State) :
    ((s.emit h stroke).channels.get k).engage = (s.channels.get k).engage := by
  have hwear : ∀ c : Channel, (c.countWear stroke.closed).engage = c.engage := fun c => by
    unfold Channel.countWear
    split <;> rfl
  by_cases hk : k = h
  · subst hk
    simp [State.emit, Channel.advance, hwear, Channel.present]
  · simp [State.emit, PerHead.get_set_other _ _ _ _ hk]

/-- The channels change in a chain of moves only where a move of one block says so, at a stroke and at a full reset. -/
theorem Moves.engageExact {s t : State} (h : Moves s t) : s.EngageExact → t.EngageExact := by
  induction h with
  | refl s => exact id
  | trans _ _ ihs iht => exact fun hs => iht (ihs hs)
  | free | link | monitors | queues | cals | store => exact fun hs => hs
  | channels cs s hc => exact fun hs k => (hc k).2 (hs k)
  | emit h stroke s =>
    intro hs k
    rw [State.emit_engage, State.emit_channelState]
    exact hs k
  | fullReset s =>
    intro _ k
    have hblank : s.fullReset.channels.get k = Channel.afterReset := PerHead.get_const Channel.afterReset k
    rw [State.channelState, hblank]
    rfl

/-- Settles O46: every step is a chain of moves. -/
theorem engageLineFollowsChannelState : Obligations.EngageLineFollowsChannelState := by
  intro s t hs h
  rcases step_cases s t h with rfl | ⟨c, rest, -, h⟩
  · exact hs
  · exact (exec_moves c _ t h).engageExact hs

end Sys2Proof.Machine
end

section
/-! The abort of a job, and the emergency stop (O43). -/

namespace Sys2Proof.Machine

open Sys2Proof.Claims

/-! ## What a departure reads and writes -/

/-- What a departure of a head reads and writes: the view of a count, and the head's demand. -/
def State.departView (h : Head) (s : State) : CountView × Nat := (s.countView h, s.dbu.demand.get h)

/-- What a departure leaves alone: all but the channels, the queues, the demands and the counters of the heads. -/
def State.departAside (s : State) : State :=
  { s with
    channels := State.reset.channels, queues := State.reset.queues
    dbu := { s.dbu with demand := State.reset.dbu.demand }
    rpt := { s.rpt with heads := State.reset.rpt.heads } }

theorem State.eq_of_departAside {s t : State} (h : t.departAside = s.departAside) :
    t = { s with
      channels := t.channels, queues := t.queues, dbu := { s.dbu with demand := t.dbu.demand }
      rpt := { s.rpt with heads := t.rpt.heads } } :=
  congrArg (fun u : State =>
    { u with
      channels := t.channels, queues := t.queues, dbu := { u.dbu with demand := t.dbu.demand }
      rpt := { u.rpt with heads := t.rpt.heads } }) h

theorem accountOf_congr {h : Head} {s t : State} (e : s.countView h = t.countView h) :
    accountOf h s = accountOf h t := by
  have hcells := State.jobCells_congr e
  injection e with hc hq
  simp only [accountOf, State.channelState, hc, hq, hcells]

/-- The channel, the queue, the demand and the counters of a head an abort halts, the others as they are (R105). -/
theorem State.haltIfActive_departView (cause : StopCause) (h : Head) (s : State) :
    State.departView h (s.haltIfActive cause h) =
      ({ s.countView h with
          channel := if s.active h then (s.channels.get h).leave .halted cause else s.channels.get h
          queue := if s.active h then (s.queues.get h).emptied else s.queues.get h
          counters := if s.active h then shortCount h s (s.rpt.heads.get h) else s.rpt.heads.get h },
        if s.active h then 0 else s.dbu.demand.get h) := by
  unfold State.haltIfActive
  cases s.active h with
  | true =>
    simp only [State.departView, State.countView, State.depart, Rpt.updHead, PerHead.get_set_same,
      State.leavesShort_eq, shortCount, if_true]
  | false => rfl

theorem State.haltIfActive_departView_other (cause : StopCause) (h k : Head) (s : State) (hk : k ≠ h) :
    State.departView k (s.haltIfActive cause h) = s.departView k := by
  unfold State.haltIfActive
  split
  · rw [State.departView, s.depart_countView_other hk]
    simp [State.departView, PerHead.get_set_other _ _ _ _ hk]
  · rfl

theorem State.haltIfActive_departView_congr (cause : StopCause) (h : Head) (s t : State)
    (e : s.departView h = t.departView h) :
    State.departView h (s.haltIfActive cause h) = State.departView h (t.haltIfActive cause h) := by
  have hview : s.countView h = t.countView h := congrArg Prod.fst e
  have hc : s.channels.get h = t.channels.get h := congrArg CountView.channel hview
  have hq : s.queues.get h = t.queues.get h := congrArg CountView.queue hview
  have hn : s.rpt.heads.get h = t.rpt.heads.get h := congrArg CountView.counters hview
  have hd : s.dbu.demand.get h = t.dbu.demand.get h := congrArg Prod.snd e
  have hactive : s.active h = t.active h := by simp only [State.active, State.channelState, hc]
  have hshort : ∀ c, shortCount h s c = shortCount h t c := fun c => by
    simp only [shortCount, accountOf_congr hview]
  rw [State.haltIfActive_departView, State.haltIfActive_departView, hactive, hshort, hview, hc, hq, hn, hd]

theorem State.haltIfActive_departAside (cause : StopCause) (h : Head) (s : State) :
    (s.haltIfActive cause h).departAside = s.departAside := by
  unfold State.haltIfActive
  split <;> rfl

/-! ## The abort -/

theorem State.postAll_concat (es : List Event) (e : Event) (s : State) :
    s.postAll (es ++ [e]) = (s.postAll es).post e := by
  rw [State.postAll, List.foldl_append]
  rfl

/-- The heads after steps 2 and 3 of R105. -/
theorem State.haltIfActive_all (cause : StopCause) (s : State) :
    forHeads (State.haltIfActive cause) s =
      { s with
        channels := s.channels.mapIdx (fun h c => if s.active h then c.leave .halted cause else c)
        queues := s.queues.mapIdx (fun h q => if s.active h then q.emptied else q)
        dbu := { s.dbu with demand := s.dbu.demand.mapIdx (fun h d => if s.active h then 0 else d) }
        rpt := { s.rpt with
          heads := s.rpt.heads.mapIdx (fun h c => if s.active h then shortCount h s c else c) } } := by
  have hview : ∀ h, State.departView h (forHeads (State.haltIfActive cause) s) =
      State.departView h (s.haltIfActive cause h) := fun h =>
    forHeads_view_of_own State.departView _ (State.haltIfActive_departView_other cause)
      (State.haltIfActive_departView_congr cause) s h
  simp only [State.haltIfActive_departView] at hview
  have haside := State.eq_of_departAside (forHeads_view State.departAside _ (State.haltIfActive_departAside cause) s)
  generalize forHeads (State.haltIfActive cause) s = t at hview haside
  have hchannels : t.channels = s.channels.mapIdx (fun h c => if s.active h then c.leave .halted cause else c) :=
    PerHead.ext_get _ _ (fun h => by
      rw [PerHead.get_mapIdx]
      exact congrArg (fun v => v.1.channel) (hview h))
  have hqueues : t.queues = s.queues.mapIdx (fun h q => if s.active h then q.emptied else q) :=
    PerHead.ext_get _ _ (fun h => by
      rw [PerHead.get_mapIdx]
      exact congrArg (fun v => v.1.queue) (hview h))
  have hdemand : t.dbu.demand = s.dbu.demand.mapIdx (fun h d => if s.active h then 0 else d) :=
    PerHead.ext_get _ _ (fun h => by
      rw [PerHead.get_mapIdx]
      exact congrArg (fun v => v.2) (hview h))
  have hheads : t.rpt.heads = s.rpt.heads.mapIdx (fun h c => if s.active h then shortCount h s c else c) :=
    PerHead.ext_get _ _ (fun h => by
      rw [PerHead.get_mapIdx]
      exact congrArg (fun v => v.1.counters) (hview h))
  rw [haside, hchannels, hqueues, hdemand, hheads]

theorem State.haltEvents_eq (cause : StopCause) (s : State) :
    s.haltEvents cause = (allHeads.filter (fun h => s.active h)).map (fun h => leaveEvent h .halted cause s) :=
  List.map_congr_left (fun h _ => s.departEvent_eq h .halted cause)

/-- The abort of a live job is what R105 says it is. -/
theorem State.abortJob_of_live (cause : StopCause) (s : State) (hlive : jobLive s.job.state = true) :
    s.abortJob cause = State.postAll (haltingEvents cause s) (halted cause s) := by
  rw [State.abortJob, if_pos hlive, State.haltIfActive_all, haltingEvents, State.postAll_concat,
    State.haltEvents_eq]
  rfl

theorem abortHaltsEveryActiveChannel : AbortHaltsEveryActiveChannel := by
  refine fun cause s => ⟨fun hlive => s.abortJob_of_live cause ((jobLive_iff _).mpr hlive), fun hidle => ?_⟩
  refine s.abortJob_of_not_live cause ?_
  rcases hidle with h | h | h <;> rw [h] <;> rfl

/-! ## The ABORT command and the emergency stop -/

/-- A command of its length that is not available in the job state is refused with that state (R180). -/
theorem command_refused (c : CommandName) (tag : Half) (p : List Byte) (body : State → Answer) (s : State)
    (hr : s.inReset = false) (hl : p.length = commandLength c) (ha : ¬ commandAvailable c s.job.state = true) :
    command c tag p body s = .next (answer (commandCode c) tag .state (stateRefusal c s.job.state) s) :=
  command_unavailable c tag p body s hr hl (Bool.eq_false_iff.mpr ha)

/-- A command that is available in the job state is answered as its own block answers it. -/
theorem command_available (c : CommandName) (tag : Half) (p : List Byte) (body : State → Answer) (s : State)
    (hr : s.inReset = false) (hl : p.length = commandLength c) (ha : commandAvailable c s.job.state = true) :
    command c tag p body s = .next (answerOf (commandCode c) tag (body s)) :=
  command_taken c tag p body s hr hl ha

theorem abortCommandAbortsJob : AbortCommandAbortsJob := by
  intro tag s hr live
  have havailable : commandAvailable .abort s.job.state = true ↔ live := jobLive_iff _
  refine ⟨fun hdead => ?_, fun hlive => ?_⟩
  · exact command_refused .abort tag [] _ s hr rfl (fun ha => hdead (havailable.mp ha))
  · refine (command_available .abort tag [] abort s hr rfl (havailable.mpr hlive)).trans ?_
    rw [abort, s.abortJob_of_live _ ((jobLive_iff _).mpr hlive)]
    rfl

theorem emergencyStopAbortsJobAndCalibrations : EmergencyStopAbortsJobAndCalibrations := by
  intro s hr
  have hexec : ∀ level, s.lines.estopN ≠ level →
      exec (.estop level) s = .next (State.arbitrate
        (State.estopChange level { s with lines := { s.lines with estopN := level } })) := by
    intro level hne
    show execEstop level s = _
    rw [execEstop, if_neg (Bool.eq_false_iff.mp hr), if_neg (Ne.symm hne)]
    exact serve_live _ _ hr
  refine ⟨fun hhigh => ?_, fun hlow => ?_⟩
  · rw [hexec false (by simp [hhigh])]
    rfl
  · rw [hexec true (by simp [hlow])]
    rfl

/-- Settles O43, one part for each of the three. -/
theorem abortAndEmergencyStopHaltJob : Obligations.AbortAndEmergencyStopHaltJob :=
  ⟨abortHaltsEveryActiveChannel, abortCommandAbortsJob, emergencyStopAbortsJobAndCalibrations⟩

end Sys2Proof.Machine
end

section
/-! SUPPORT. The job and the seats of its heads, apart from the rest of the part: what they keep at every moment of an
event, and what a departure, an abort and a GO make of them (O47). -/

namespace Sys2Proof.Machine

/-! ## The job and its seats -/

/-- What the coherence of the job reads of a head. -/
structure JobSeat where
  state : ChannelState
  /-- A track is in progress. -/
  tracking : Bool
  /-- The queue holds no record. -/
  vacant : Bool
  calibrating : Bool
  demand : Nat

/-- What the coherence of the job reads of the part. -/
structure JobView where
  state : JobState
  record : Option JobRecord
  seat : Head → JobSeat
  feedEn : Bool
  holdCount : Nat

/-- A head's seat in a state of the part. -/
def State.jobSeat (h : Head) (s : State) : JobSeat :=
  ⟨s.channelState h, (s.queues.get h).inProgress.isSome, (s.queues.get h).records.isEmpty, s.calibrating h,
    s.dbu.demand.get h⟩

/-- The job and its seats in a state of the part. -/
def State.jobView (s : State) : JobView :=
  ⟨s.job.state, s.job.record, fun h => s.jobSeat h, s.ctu.feedEn, s.ctu.holdCount⟩

/-- The entry of a head in the record (R95). -/
def JobView.entry (v : JobView) (h : Head) : Option HeadEntry := v.record.bind (fun r => r.heads.get h)

/-- The hold limit of the record (R95). -/
def JobView.holdLimit (v : JobView) : Nat := (v.record.map JobRecord.holdLimit).getD 0

/-- Some channel is active. -/
def JobView.Active (v : JobView) : Prop := ∃ h, activeState (v.seat h).state = true

/-- Some channel is CUTTING. -/
def JobView.Cutting (v : JobView) : Prop := ∃ h, (v.seat h).state = .cutting

/-! ## What they keep -/

/-- What holds of a head's seat at every moment of an event, also between the retirement of its track and the
decision: `State.HeadCoherent` but for the track in progress of a CUTTING channel. -/
structure JobSeat.Sound (j : JobState) (entry : Option HeadEntry) (x : JobSeat) : Prop where
  calibrating : x.calibrating = true ↔ x.state = .calibrating
  tracked : x.tracking = true → x.state = .cutting
  setup : j = .setup → x.state = .off ∨ x.state = .calibrating
  outside : j ≠ .setup → x.state ≠ .calibrating ∧ (x.state = .off ↔ entry = none)
  armed : j = .armed → x.state = .off ∨ x.state = .primed ∨ x.state = .parked
  finished : j = .ended ∨ j = .aborted → activeState x.state = false
  demand : x.tracking = false → x.demand = 0
  emptied : activeState x.state = false → x.vacant = true

/-- What holds of the job and its seats at every moment of an event. -/
structure JobView.Sound (v : JobView) : Prop where
  seats : ∀ h, (v.seat h).Sound v.state (v.entry h)
  live : jobLive v.state = true ↔ v.Active
  feed : v.feedEn = true ↔ v.Cutting
  held : jobCutting v.state = true → v.holdCount ≤ v.holdLimit
  defined : v.state ≠ .setup → v.record.isSome = true
  named : ∀ r, v.record = some r → ∃ h : Head, (r.heads.get h).isSome = true

/-- Every CUTTING channel has its track in progress, as between two events. -/
def JobView.Tracked (v : JobView) : Prop := ∀ h, (v.seat h).state = .cutting → (v.seat h).tracking = true

/-- No channel has a track in progress, as between the retirements of a boundary and its decision. -/
def JobView.Untracked (v : JobView) : Prop := ∀ h, (v.seat h).tracking = false

/-- What holds of the job and its seats between two events. -/
structure JobView.Coherent (v : JobView) : Prop where
  sound : v.Sound
  tracked : v.Tracked

theorem State.headEntry_eq (h : Head) (s : State) : s.headEntry h = s.jobView.entry h := by
  unfold State.headEntry JobView.entry State.jobView
  cases s.job.record <;> rfl

theorem State.holdLimit_eq (s : State) : s.holdLimit = s.jobView.holdLimit := by
  unfold State.holdLimit JobView.holdLimit State.jobView
  cases s.job.record <;> rfl

theorem State.anyActive_iff_view (s : State) : s.anyActive = true ↔ s.jobView.Active := s.anyActive_iff

theorem State.anyCutting_iff_view (s : State) : s.anyCutting = true ↔ s.jobView.Cutting := by
  have hany := any_head_iff (fun h => s.channelState h == .cutting)
  simp only [beq_iff_eq] at hany
  exact hany

theorem State.headCoherent_iff (h : Head) (s : State) :
    s.HeadCoherent h ↔ (s.jobSeat h).Sound s.job.state (s.headEntry h) ∧
      (s.channelState h = .cutting → (s.queues.get h).inProgress.isSome = true) := by
  constructor
  · rintro ⟨hcal, hcut, hsetup, hout, harmed, hfin, hdemand, hempty⟩
    refine ⟨⟨hcal, hcut.mpr, hsetup, hout, harmed, hfin, fun ht => hdemand (fun hc => ?_), fun ha => ?_⟩, hcut.mp⟩
    · cases (hcut.mp hc).symm.trans ht
    · exact List.isEmpty_iff.mpr (hempty ha)
  · rintro ⟨⟨hcal, htracked, hsetup, hout, harmed, hfin, hdemand, hempty⟩, hcut⟩
    refine ⟨hcal, ⟨hcut, htracked⟩, hsetup, hout, harmed, hfin, fun hc => hdemand ?_, fun ha => ?_⟩
    · exact Bool.eq_false_iff.mpr (fun ht => hc (htracked ht))
    · exact List.isEmpty_iff.mp (hempty ha)

/-- The coherence of the job is the coherence of its view. -/
theorem State.jobCoherent_iff (s : State) : s.JobCoherent ↔ s.jobView.Coherent := by
  constructor
  · rintro ⟨hheads, hlive, hfeed, hheld, hdefined, hnamed⟩
    refine ⟨⟨fun h => ?_, ?_, ?_, fun hc => ?_, hdefined, hnamed⟩, fun h => ((s.headCoherent_iff h).mp (hheads h)).2⟩
    · rw [← State.headEntry_eq]
      exact ((s.headCoherent_iff h).mp (hheads h)).1
    · rw [← s.anyActive_iff_view, ← hlive]
      rfl
    · rw [← s.anyCutting_iff_view, ← hfeed]
      rfl
    · rw [← s.holdLimit_eq]
      exact hheld hc
  · rintro ⟨⟨hseats, hlive, hfeed, hheld, hdefined, hnamed⟩, htracked⟩
    refine ⟨fun h => (s.headCoherent_iff h).mpr ⟨?_, htracked h⟩, ?_, ?_, fun hc => ?_, hdefined, hnamed⟩
    · rw [State.headEntry_eq]
      exact hseats h
    · exact Bool.eq_iff_iff.mpr (hlive.trans s.anyActive_iff_view.symm)
    · exact Bool.eq_iff_iff.mpr (hfeed.trans s.anyCutting_iff_view.symm)
    · rw [s.holdLimit_eq]
      exact hheld hc

/-! ## One seat changed -/

/-- The view with one seat replaced. -/
def JobView.put (h : Head) (x : JobSeat) (v : JobView) : JobView :=
  { v with seat := fun k => if k = h then x else v.seat k }

@[simp] theorem JobView.put_seat_same (h : Head) (x : JobSeat) (v : JobView) : (v.put h x).seat h = x := if_pos rfl

theorem JobView.put_seat_other {h k : Head} (hk : k ≠ h) (x : JobSeat) (v : JobView) :
    (v.put h x).seat k = v.seat k := if_neg hk

/-- A head outside a job in SETUP is not calibrating. -/
theorem JobSeat.Sound.not_calibrating {j : JobState} {entry : Option HeadEntry} {x : JobSeat} (hx : x.Sound j entry)
    (hj : j ≠ .setup) : x.calibrating = false :=
  Bool.eq_false_iff.mpr fun hc => (hx.outside hj).1 (hx.calibrating.mp hc)

/-- A seat may be replaced by a sound one that is active, and CUTTING, as it was. -/
theorem JobView.Sound.put {v : JobView} (hv : v.Sound) {h : Head} {x : JobSeat} (hx : x.Sound v.state (v.entry h))
    (hactive : activeState x.state = activeState (v.seat h).state)
    (hcutting : x.state = .cutting ↔ (v.seat h).state = .cutting) : (v.put h x).Sound where
  seats k := by
    by_cases hk : k = h
    · subst hk
      rw [JobView.put_seat_same]
      exact hx
    · rw [JobView.put_seat_other hk]
      exact hv.seats k
  live := by
    refine hv.live.trans (exists_congr fun k => ?_)
    by_cases hk : k = h
    · subst hk
      rw [JobView.put_seat_same, hactive]
    · rw [JobView.put_seat_other hk]
  feed := by
    refine hv.feed.trans (exists_congr fun k => ?_)
    by_cases hk : k = h
    · subst hk
      rw [JobView.put_seat_same, hcutting]
    · rw [JobView.put_seat_other hk]
  held := hv.held
  defined := hv.defined
  named := hv.named

theorem JobView.Tracked.put {v : JobView} (hv : v.Tracked) {h : Head} {x : JobSeat}
    (hx : x.state = .cutting → x.tracking = true) : (v.put h x).Tracked := by
  intro k
  by_cases hk : k = h
  · subst hk
    rw [JobView.put_seat_same]
    exact hx
  · rw [JobView.put_seat_other hk]
    exact hv k

/-- An active head is in the set of a job outside SETUP. -/
theorem JobView.Sound.member_of_active {v : JobView} (hv : v.Sound) {h : Head}
    (ha : activeState (v.seat h).state = true) : v.state ≠ .setup ∧ v.entry h ≠ none := by
  have hset : v.state ≠ .setup := fun hs => by
    rcases (hv.seats h).setup hs with hoff | hcal
    · rw [hoff] at ha
      cases ha
    · rw [hcal] at ha
      cases ha
  refine ⟨hset, fun hnone => ?_⟩
  rw [((hv.seats h).outside hset).2.mpr hnone] at ha
  cases ha

/-- A CUTTING channel belongs to a job that is RUNNING or STOPPING. -/
theorem JobView.Sound.running_of_cutting {v : JobView} (hv : v.Sound) {h : Head} (hc : (v.seat h).state = .cutting) :
    v.state = .running ∨ v.state = .stopping := by
  have hseat := hv.seats h
  have hactive : activeState (v.seat h).state = true := by
    rw [hc]
    rfl
  cases hj : v.state with
  | running => exact .inl rfl
  | stopping => exact .inr rfl
  | setup => exact absurd hj (hv.member_of_active hactive).1
  | armed =>
    have := hseat.armed hj
    simp [hc] at this
  | ended => exact absurd (hseat.finished (.inl hj)) (by simp [hactive])
  | aborted => exact absurd (hseat.finished (.inr hj)) (by simp [hactive])

/-! ## A departure -/

/-- A seat that its head has left in a state. -/
def JobSeat.left (st : ChannelState) (x : JobSeat) : JobSeat :=
  { x with state := st, tracking := false, vacant := true, demand := 0 }

/-- FEED_EN is dropped when no channel is CUTTING any more (R43). -/
def JobView.dropFeed (v : JobView) : JobView :=
  { v with feedEn := v.feedEn && allHeads.any (fun h => (v.seat h).state == .cutting) }

/-- A live job without an active channel ends (R104). -/
def JobView.close (v : JobView) : JobView :=
  if jobLive v.state && !allHeads.any (fun h => activeState (v.seat h).state) then { v with state := .ended } else v

/-- One head leaves the job by itself (R104, R115, R116). -/
def JobView.leave (h : Head) (st : ChannelState) (v : JobView) : JobView :=
  (v.put h ((v.seat h).left st)).dropFeed.close

theorem any_allHeads (p : Head → Bool) : allHeads.any p = true ↔ ∃ h : Head, p h = true := by
  rw [List.any_eq_true]
  exact ⟨fun ⟨h, _, hp⟩ => ⟨h, hp⟩, fun ⟨h, hp⟩ => ⟨h, mem_allHeads h, hp⟩⟩

theorem JobView.any_cutting_iff (v : JobView) :
    allHeads.any (fun h => (v.seat h).state == .cutting) = true ↔ v.Cutting := by
  simp only [any_allHeads, beq_iff_eq, JobView.Cutting]

theorem JobView.close_iff (v : JobView) :
    (jobLive v.state && !allHeads.any (fun h => activeState (v.seat h).state)) = true ↔
      jobLive v.state = true ∧ ¬ v.Active := by
  rw [Bool.and_eq_true, Bool.not_eq_true', Bool.eq_false_iff, ne_eq, any_allHeads, JobView.Active]

theorem JobView.close_seat (v : JobView) : v.close.seat = v.seat := by
  unfold JobView.close
  split <;> rfl

theorem JobView.close_entry (v : JobView) (h : Head) : v.close.entry h = v.entry h := by
  unfold JobView.close
  split <;> rfl

theorem JobView.leave_seat (h k : Head) (st : ChannelState) (v : JobView) :
    (v.leave h st).seat k = if k = h then (v.seat h).left st else v.seat k := by
  rw [JobView.leave, JobView.close_seat]
  rfl

theorem JobView.leave_entry (h k : Head) (st : ChannelState) (v : JobView) : (v.leave h st).entry k = v.entry k := by
  rw [JobView.leave, JobView.close_entry]
  rfl

/-- A departure leaves the job state, or ends the job. -/
theorem JobView.leave_state (h : Head) (st : ChannelState) (v : JobView) :
    (v.leave h st).state = v.state ∨ (v.leave h st).state = .ended := by
  unfold JobView.leave JobView.close
  split
  · exact .inr rfl
  · exact .inl rfl

/-- A seat that is not active is sound when the job has ended. -/
theorem JobSeat.Sound.ended {j : JobState} {entry : Option HeadEntry} {x : JobSeat} (hx : x.Sound j entry)
    (hj : j ≠ .setup) (ha : activeState x.state = false) : x.Sound .ended entry where
  calibrating := hx.calibrating
  tracked := hx.tracked
  setup := nofun
  outside _ := hx.outside hj
  armed := nofun
  finished _ := ha
  demand := hx.demand
  emptied := hx.emptied

/-- Where an active channel means a live job, the end of a job without one leaves job and seats sound. -/
theorem JobView.Sound.of_close {v : JobView} (hset : v.state ≠ .setup)
    (hseats : ∀ h, (v.seat h).Sound v.state (v.entry h)) (hlive : v.Active → jobLive v.state = true)
    (hfeed : v.feedEn = true ↔ v.Cutting) (hheld : jobCutting v.state = true → v.holdCount ≤ v.holdLimit)
    (hdefined : v.record.isSome = true) (hnamed : ∀ r, v.record = some r → ∃ h : Head, (r.heads.get h).isSome = true) :
    v.close.Sound := by
  unfold JobView.close
  split
  · rename_i hends
    rw [v.close_iff] at hends
    refine ⟨fun h => ?_, ?_, hfeed, nofun, fun _ => hdefined, hnamed⟩
    · exact (hseats h).ended hset (Bool.eq_false_iff.mpr fun ha => hends.2 ⟨h, ha⟩)
    · exact iff_of_false nofun hends.2
  · rename_i hends
    rw [v.close_iff] at hends
    refine ⟨hseats, ⟨fun hl => ?_, hlive⟩, hfeed, hheld, fun _ => hdefined, hnamed⟩
    by_contra ha
    exact hends ⟨hl, ha⟩

/-- A head may leave a job outside SETUP whose set names it; while the job is ARMED it is parked. -/
structure JobView.MayLeave (v : JobView) (h : Head) (st : ChannelState) : Prop where
  outside : v.state ≠ .setup
  member : v.entry h ≠ none
  state : st = .parked ∨ (st = .halted ∨ st = .done) ∧ v.state ≠ .armed

/-- The seat that a head of the set has left is sound outside SETUP; while the job is ARMED only when it is parked. -/
theorem JobSeat.Sound.left {j k : JobState} {entry : Option HeadEntry} {st : ChannelState} {x : JobSeat}
    (hx : x.Sound j entry) (hj : j ≠ .setup) (hm : entry ≠ none) (hk : k ≠ .setup)
    (hst : st = .parked ∨ (st = .halted ∨ st = .done) ∧ k ≠ .armed) : (x.left st).Sound k entry := by
  have hcal := hx.not_calibrating hj
  rcases hst with rfl | ⟨rfl | rfl, harmed⟩
  all_goals
    exact
      { calibrating := by simp [JobSeat.left, hcal]
        tracked := nofun
        setup := fun hs => absurd hs hk
        outside := fun _ => by simp [JobSeat.left, hm]
        armed := fun ha => by simp_all [JobSeat.left]
        finished := fun _ => rfl
        demand := fun _ => rfl
        emptied := fun _ => rfl }

theorem JobView.MayLeave.idle {v : JobView} {h : Head} {st : ChannelState} (hm : v.MayLeave h st) :
    activeState st = false ∧ st ≠ .cutting := by
  rcases hm.state with rfl | ⟨rfl | rfl, -⟩ <;> exact ⟨rfl, nofun⟩

/-- A departure keeps job and seats sound. -/
theorem JobView.Sound.leave {v : JobView} (hv : v.Sound) {h : Head} {st : ChannelState} (hm : v.MayLeave h st) :
    (v.leave h st).Sound := by
  obtain ⟨hactive, hcutting⟩ := hm.idle
  have hkept : ∀ k, activeState ((v.put h ((v.seat h).left st)).seat k).state = true →
      activeState (v.seat k).state = true := by
    intro k
    by_cases hk : k = h
    · subst hk
      simp [JobSeat.left, hactive]
    · rw [JobView.put_seat_other hk]
      exact id
  have hcut : ∀ k, ((v.put h ((v.seat h).left st)).seat k).state = .cutting → (v.seat k).state = .cutting := by
    intro k
    by_cases hk : k = h
    · subst hk
      simp [JobSeat.left, hcutting]
    · rw [JobView.put_seat_other hk]
      exact id
  refine JobView.Sound.of_close hm.outside (fun k => ?_) ?_ ?_ hv.held (hv.defined hm.outside) hv.named
  · show ((v.put h ((v.seat h).left st)).seat k).Sound v.state (v.entry k)
    by_cases hk : k = h
    · subst hk
      rw [JobView.put_seat_same]
      exact (hv.seats k).left hm.outside hm.member hm.outside hm.state
    · rw [JobView.put_seat_other hk]
      exact hv.seats k
  · rintro ⟨k, hk⟩
    exact hv.live.mpr ⟨k, hkept k hk⟩
  · simp only [JobView.dropFeed, Bool.and_eq_true, JobView.any_cutting_iff]
    exact ⟨fun hc => hc.2, fun ⟨k, hk⟩ => ⟨hv.feed.mpr ⟨k, hcut k hk⟩, k, hk⟩⟩

theorem JobView.Tracked.leave {v : JobView} (hv : v.Tracked) {h : Head} {st : ChannelState} (hst : st ≠ .cutting) :
    (v.leave h st).Tracked := by
  intro k
  rw [JobView.leave_seat]
  split
  · exact fun hc => absurd hc hst
  · exact hv k

theorem JobView.Untracked.leave {v : JobView} (hv : v.Untracked) (h : Head) (st : ChannelState) :
    (v.leave h st).Untracked := by
  intro k
  rw [JobView.leave_seat]
  split
  · rfl
  · exact hv k

theorem JobView.Coherent.leave {v : JobView} (hv : v.Coherent) {h : Head} {st : ChannelState} (hm : v.MayLeave h st) :
    (v.leave h st).Coherent := ⟨hv.sound.leave hm, hv.tracked.leave hm.idle.2⟩

/-- An active head may be parked. -/
theorem JobView.Sound.mayPark {v : JobView} (hv : v.Sound) {h : Head} (ha : activeState (v.seat h).state = true) :
    v.MayLeave h .parked :=
  ⟨(hv.member_of_active ha).1, (hv.member_of_active ha).2, .inl rfl⟩

/-! ## An abort -/

/-- The abort of a live job (R105). -/
def JobView.abort (v : JobView) : JobView :=
  { v with
    state := .aborted, feedEn := false
    seat := fun h => if activeState (v.seat h).state then (v.seat h).left .halted else v.seat h }

/-- An abort leaves job and seats coherent, wherever within an event it comes. -/
theorem JobView.Sound.abort {v : JobView} (hv : v.Sound) (hlive : jobLive v.state = true) : v.abort.Coherent := by
  have hset : v.state ≠ .setup := fun hs => by
    rw [hs] at hlive
    cases hlive
  have hidle : ∀ h, activeState (v.abort.seat h).state = false := fun h => by
    cases ha : activeState (v.seat h).state with
    | true =>
      simp only [JobView.abort, ha, if_true]
      rfl
    | false =>
      simp only [JobView.abort, ha, Bool.false_eq_true, if_false]
  have hcut : ∀ h, (v.abort.seat h).state ≠ .cutting := fun h hc => by
    have := hidle h
    rw [hc] at this
    cases this
  have hseats : ∀ h, (v.abort.seat h).Sound .aborted (v.entry h) := fun h => by
    have hx := hv.seats h
    cases ha : activeState (v.seat h).state with
    | true =>
      simp only [JobView.abort, ha, if_true]
      exact hx.left hset (hv.member_of_active ha).2 nofun (.inr ⟨.inl rfl, nofun⟩)
    | false =>
      simp only [JobView.abort, ha, Bool.false_eq_true, if_false]
      exact ⟨hx.calibrating, hx.tracked, nofun, fun _ => hx.outside hset, nofun, fun _ => ha, hx.demand, hx.emptied⟩
  refine ⟨⟨hseats, iff_of_false nofun ?_, iff_of_false nofun ?_, nofun, fun _ => hv.defined hset, hv.named⟩, ?_⟩
  · rintro ⟨h, ha⟩
    cases (hidle h).symm.trans ha
  · rintro ⟨h, hc⟩
    exact hcut h hc
  · exact fun h hc => absurd hc (hcut h)

/-! ## GO and HOLD -/

/-- What a GO makes of sound seats without a track in progress: the active channels CUT their tracks (R40). -/
theorem JobView.Sound.started {v w : JobView} (hv : v.Sound) (hj : v.state ≠ .armed) (hstate : w.state = v.state)
    (hrecord : w.record = v.record)
    (hactive : ∀ h, activeState (v.seat h).state = true →
      (w.seat h).state = .cutting ∧ (w.seat h).tracking = true ∧ (w.seat h).calibrating = (v.seat h).calibrating)
    (hidle : ∀ h, activeState (v.seat h).state = false → w.seat h = v.seat h)
    (hfeed : w.feedEn = true ↔ w.Cutting) (hheld : w.holdCount = 0) : w.Coherent := by
  have hentry : ∀ h, w.entry h = v.entry h := fun h => by simp only [JobView.entry, hrecord]
  have hkeeps : ∀ h, activeState (w.seat h).state = activeState (v.seat h).state := fun h => by
    cases ha : activeState (v.seat h).state with
    | true =>
      rw [(hactive h ha).1]
      rfl
    | false => rw [hidle h ha, ha]
  have hseats : ∀ h, (w.seat h).Sound w.state (w.entry h) := fun h => by
    have hx := hv.seats h
    rw [hstate, hentry h]
    cases ha : activeState (v.seat h).state with
    | true =>
      obtain ⟨hcut, htrack, hcal⟩ := hactive h ha
      obtain ⟨hset, hmem⟩ := hv.member_of_active ha
      have hnot := hx.not_calibrating hset
      exact
        { calibrating := by simp [hcal, hnot, hcut]
          tracked := fun _ => hcut
          setup := fun hs => absurd hs hset
          outside := fun _ => by simp [hcut, hmem]
          armed := fun hs => absurd hs hj
          finished := fun hs => by cases ha.symm.trans (hx.finished hs)
          demand := fun ht => by cases htrack.symm.trans ht
          emptied := fun hw => by
            rw [hcut] at hw
            cases hw }
    | false =>
      rw [hidle h ha]
      exact hx
  refine ⟨⟨hseats, ?_, hfeed, fun _ => hheld ▸ Nat.zero_le _, ?_, ?_⟩, fun h hc => ?_⟩
  · rw [hstate, hv.live]
    exact exists_congr fun h => by rw [hkeeps h]
  · rw [hstate, hrecord]
    exact hv.defined
  · rw [hrecord]
    exact hv.named
  · have ha : activeState (v.seat h).state = true := by
      rw [← hkeeps h, hc]
      rfl
    exact (hactive h ha).2.1

/-- What a HOLD makes of the view: the active channels are WAITING (R41). -/
def JobView.wait (count : Nat) (v : JobView) : JobView :=
  { v with
    seat := fun h => if activeState (v.seat h).state then { v.seat h with state := .waiting } else v.seat h
    feedEn := false, holdCount := count }

/-- What a HOLD makes of sound seats without a track in progress. -/
theorem JobView.Sound.wait {v : JobView} (hv : v.Sound) (hu : v.Untracked) (hj : v.state ≠ .armed) {count : Nat}
    (hcount : jobCutting v.state = true → count ≤ v.holdLimit) : (v.wait count).Coherent := by
  have hkeeps : ∀ h, activeState ((v.wait count).seat h).state = activeState (v.seat h).state := fun h => by
    cases ha : activeState (v.seat h).state with
    | true =>
      simp only [JobView.wait, ha, if_true]
      rfl
    | false => simp only [JobView.wait, ha, Bool.false_eq_true, if_false]
  have hcut : ∀ h, ((v.wait count).seat h).state ≠ .cutting := fun h => by
    cases ha : activeState (v.seat h).state with
    | true => simp [JobView.wait, ha]
    | false =>
      intro hc
      have := hkeeps h
      rw [hc, ha] at this
      cases this
  have hseats : ∀ h, ((v.wait count).seat h).Sound v.state (v.entry h) := fun h => by
    have hx := hv.seats h
    cases ha : activeState (v.seat h).state with
    | true =>
      obtain ⟨hset, hmem⟩ := hv.member_of_active ha
      have hcal := hx.not_calibrating hset
      simp only [JobView.wait, ha, if_true]
      exact
        { calibrating := by simp [hcal]
          tracked := fun ht => by cases (hu h).symm.trans ht
          setup := fun hs => absurd hs hset
          outside := fun _ => by simp [hmem]
          armed := fun hs => absurd hs hj
          finished := fun hs => by cases ha.symm.trans (hx.finished hs)
          demand := hx.demand
          emptied := nofun }
    | false =>
      simp only [JobView.wait, ha, Bool.false_eq_true, if_false]
      exact hx
  refine ⟨⟨hseats, ?_, iff_of_false nofun ?_, hcount, hv.defined, hv.named⟩, fun h hc => absurd hc (hcut h)⟩
  · exact hv.live.trans (exists_congr fun h => by rw [hkeeps h])
  · rintro ⟨h, hc⟩
    exact hcut h hc

end Sys2Proof.Machine
end

section
/-! SUPPORT. What each shared operation makes of the job and its seats (O47). -/

namespace Sys2Proof.Machine

/-! ## Operations that leave the job and its seats -/

/-- The fields the job and its seats are read from. -/
theorem State.jobView_congr {s t : State} (hj : t.job = s.job) (hc : t.channels = s.channels)
    (hq : t.queues = s.queues) (hcal : t.cals = s.cals) (hd : t.dbu = s.dbu) (ht : t.ctu = s.ctu) :
    t.jobView = s.jobView := by
  simp only [State.jobView, State.jobSeat, State.channelState, State.calibrating, hj, hc, hq, hcal, hd, ht]

@[simp] theorem State.post_jobView (e : Event) (s : State) : (s.post e).jobView = s.jobView := rfl
@[simp] theorem State.updMonitor_jobView (h : Head) (f : Monitor → Monitor) (s : State) :
    (s.updMonitor h f).jobView = s.jobView := rfl
@[simp] theorem State.updCounters_jobView (h : Head) (f : HeadCounters → HeadCounters) (s : State) :
    (s.updCounters h f).jobView = s.jobView := rfl
@[simp] theorem State.updCells_jobView (h : Head) (f : CellCounters → CellCounters) (s : State) :
    (s.updCells h f).jobView = s.jobView := rfl

@[simp] theorem State.postAll_jobView (es : List Event) (s : State) : (s.postAll es).jobView = s.jobView :=
  State.jobView_congr (by simp) (by simp) (by simp) (by simp) (by simp) (by simp)

@[simp] theorem State.raiseFault_jobView (h : Head) (f : StylusFault) (n : Nat) (t : BitVec 8) (v : Option Nat)
    (s : State) : (s.raiseFault h f n t v).jobView = s.jobView := rfl

@[simp] theorem State.noteSlip_jobView (t : TimingSettings) (x : Int) (s : State) :
    (s.noteSlip t x).jobView = s.jobView :=
  State.jobView_congr (by simp) (by simp) (by simp) (by simp) (by simp) (by simp)

@[simp] theorem State.noteSpeed_jobView (t : TimingSettings) (s : State) : (s.noteSpeed t).jobView = s.jobView :=
  State.jobView_congr (by simp) (by simp) (by simp) (by simp) (by simp) (by simp)

@[simp] theorem State.measurePeriod_jobView (t : TimingSettings) (time : Nat) (s : State) :
    (s.measurePeriod t time).jobView = s.jobView := by
  unfold State.measurePeriod
  split
  · exact State.noteSpeed_jobView t _
  · rfl

/-! ## One head -/

/-- A change at one head alone replaces its seat. -/
theorem State.jobView_eq_put {s t : State} (h : Head) (hj : t.job = s.job) (ht : t.ctu = s.ctu)
    (hother : ∀ k, k ≠ h → t.jobSeat k = s.jobSeat k) : t.jobView = s.jobView.put h (t.jobSeat h) := by
  have hseat : (fun k => t.jobSeat k) = (s.jobView.put h (t.jobSeat h)).seat := funext fun k => by
    by_cases hk : k = h
    · rw [hk, JobView.put_seat_same]
    · rw [JobView.put_seat_other hk, hother k hk]
      rfl
  rw [State.jobView, hseat, hj, ht]
  rfl

theorem JobView.put_self (h : Head) (v : JobView) : v.put h (v.seat h) = v := by
  have hseat : (v.put h (v.seat h)).seat = v.seat := funext fun k => by
    by_cases hk : k = h
    · rw [hk, JobView.put_seat_same]
    · exact JobView.put_seat_other hk _ v
  exact congrArg (fun seat => { v with seat := seat }) hseat

/-- A change at one head that leaves its seat. -/
theorem State.jobView_eq_of_seat {s t : State} (h : Head) (hj : t.job = s.job) (ht : t.ctu = s.ctu)
    (hother : ∀ k, k ≠ h → t.jobSeat k = s.jobSeat k) (hown : t.jobSeat h = s.jobSeat h) :
    t.jobView = s.jobView := by
  rw [State.jobView_eq_put h hj ht hother, hown]
  exact JobView.put_self h s.jobView

/-- A seat is read from the channel, the queue, the calibration and the demand of its head. -/
theorem State.jobSeat_congr {s t : State} {h : Head} (hc : t.channels.get h = s.channels.get h)
    (hq : t.queues.get h = s.queues.get h) (hcal : t.cals.get h = s.cals.get h)
    (hd : t.dbu.demand.get h = s.dbu.demand.get h) : t.jobSeat h = s.jobSeat h := by
  simp only [State.jobSeat, State.channelState, State.calibrating, hc, hq, hcal, hd]

theorem State.updChannel_jobSeat (h k : Head) (f : Channel → Channel) (s : State) :
    State.jobSeat k (s.updChannel h f) =
      if k = h then { s.jobSeat k with state := (f (s.channels.get h)).state } else s.jobSeat k := by
  by_cases hk : k = h
  · subst hk
    simp [State.jobSeat, State.channelState, State.calibrating]
  · rw [if_neg hk]
    exact State.jobSeat_congr (PerHead.get_set_other _ _ _ _ hk) rfl rfl rfl

theorem State.updQueue_jobSeat (h k : Head) (f : Queue → Queue) (s : State) :
    State.jobSeat k (s.updQueue h f) =
      if k = h then
        { s.jobSeat k with
          tracking := (f (s.queues.get h)).inProgress.isSome, vacant := (f (s.queues.get h)).records.isEmpty }
      else s.jobSeat k := by
  by_cases hk : k = h
  · subst hk
    simp [State.jobSeat, State.channelState, State.calibrating]
  · rw [if_neg hk]
    exact State.jobSeat_congr rfl (PerHead.get_set_other _ _ _ _ hk) rfl rfl

theorem State.updCal_jobSeat (h k : Head) (f : Calibration → Calibration) (s : State) :
    State.jobSeat k (s.updCal h f) =
      if k = h then { s.jobSeat k with calibrating := (f (s.cals.get h)).phase.setup?.isSome } else s.jobSeat k := by
  by_cases hk : k = h
  · subst hk
    simp [State.jobSeat, State.channelState, State.calibrating]
  · rw [if_neg hk]
    exact State.jobSeat_congr rfl rfl (PerHead.get_set_other _ _ _ _ hk) rfl

/-- A change of a channel that keeps its state. -/
theorem State.updChannel_jobView (h : Head) (f : Channel → Channel) (s : State)
    (hf : (f (s.channels.get h)).state = (s.channels.get h).state) : (s.updChannel h f).jobView = s.jobView := by
  refine State.jobView_eq_of_seat h rfl rfl (fun k hk => ?_) ?_
  · rw [State.updChannel_jobSeat, if_neg hk]
  · rw [State.updChannel_jobSeat, if_pos rfl, hf]
    rfl

/-- A change of a queue that keeps whether a track is in progress and whether it holds a record. -/
theorem State.updQueue_jobView (h : Head) (f : Queue → Queue) (s : State)
    (ht : (f (s.queues.get h)).inProgress.isSome = (s.queues.get h).inProgress.isSome)
    (he : (f (s.queues.get h)).records.isEmpty = (s.queues.get h).records.isEmpty) :
    (s.updQueue h f).jobView = s.jobView := by
  refine State.jobView_eq_of_seat h rfl rfl (fun k hk => ?_) ?_
  · rw [State.updQueue_jobSeat, if_neg hk]
  · rw [State.updQueue_jobSeat, if_pos rfl, ht, he]
    rfl

/-- A change of a calibration that keeps whether it is in progress. -/
theorem State.updCal_jobView (h : Head) (f : Calibration → Calibration) (s : State)
    (hf : (f (s.cals.get h)).phase.setup?.isSome = s.calibrating h) : (s.updCal h f).jobView = s.jobView := by
  refine State.jobView_eq_of_seat h rfl rfl (fun k hk => ?_) ?_
  · rw [State.updCal_jobSeat, if_neg hk]
  · rw [State.updCal_jobSeat, if_pos rfl, hf]
    rfl

/-! ## Departures and aborts -/

theorem State.depart_jobView (h : Head) (st : ChannelState) (cause : StopCause) (s : State) :
    (s.depart h st cause).jobView = s.jobView.put h ((s.jobView.seat h).left st) := by
  have hown : State.jobSeat h (s.depart h st cause) = (s.jobView.seat h).left st := by
    simp [State.jobSeat, State.channelState, State.calibrating, JobSeat.left, State.jobView, Channel.leave,
      Channel.enter, Queue.emptied, Queue.inProgress]
  rw [State.jobView_eq_put h (State.depart_job h st cause s) (State.depart_ctu h st cause s) (fun k hk => ?_), hown]
  exact State.jobSeat_congr (PerHead.get_set_other _ _ _ _ hk) (PerHead.get_set_other _ _ _ _ hk) rfl
    (PerHead.get_set_other _ _ _ _ hk)

theorem State.dropFeed_jobView (s : State) : s.dropFeed.jobView = s.jobView.dropFeed := by
  rw [State.jobView, State.dropFeed_ctu, s.anyCutting_eq]
  rfl

theorem State.endJob_jobView (s : State) : s.endJob.jobView = s.jobView.close := by
  have hactive : s.anyActive = allHeads.any (fun h => activeState (s.jobView.seat h).state) :=
    Bool.eq_iff_iff.mpr (s.anyActive_iff.trans (any_allHeads _).symm)
  unfold State.endJob JobView.close
  rw [hactive]
  split
  · rw [if_pos ‹_›]
    rfl
  · rw [if_neg ‹_›]

theorem State.leaveJob_jobView (h : Head) (st : ChannelState) (cause : StopCause) (s : State) :
    (s.leaveJob h st cause).jobView = s.jobView.leave h st := by
  rw [State.leaveJob, State.endJob_jobView, State.post_jobView, State.dropFeed_jobView, State.depart_jobView,
    JobView.leave]

theorem State.abortJob_jobView (cause : StopCause) (s : State) (hlive : jobLive s.job.state = true) :
    (s.abortJob cause).jobView = s.jobView.abort := by
  rw [s.abortJob_of_live cause hlive, State.postAll_jobView]
  have hseat : ∀ h, State.jobSeat h (Claims.halted cause s) = s.jobView.abort.seat h := fun h => by
    have ha : activeState (s.jobView.seat h).state = s.active h := rfl
    simp only [JobView.abort, ha]
    cases hactive : s.active h with
    | true =>
      simp [State.jobSeat, State.channelState, State.calibrating, Claims.halted, hactive, JobSeat.left, State.jobView,
        Queue.inProgress]
    | false =>
      rw [if_neg Bool.false_ne_true]
      exact State.jobSeat_congr (by simp [Claims.halted, hactive]) (by simp [Claims.halted, hactive]) rfl
        (by simp [Claims.halted, hactive])
  rw [State.jobView, funext hseat]
  rfl

theorem State.abortJob_coherent (cause : StopCause) (s : State) (hs : s.jobView.Coherent) :
    (s.abortJob cause).jobView.Coherent := by
  cases hlive : jobLive s.job.state with
  | false => rwa [s.abortJob_of_not_live cause hlive]
  | true =>
    rw [s.abortJob_jobView cause hlive]
    exact hs.sound.abort hlive

theorem State.abortIfCutting_coherent (cause : StopCause) (s : State) (hs : s.jobView.Coherent) :
    (s.abortIfCutting cause).jobView.Coherent := by
  unfold State.abortIfCutting
  split
  · exact s.abortJob_coherent cause hs
  · exact hs

/-! ## Calibrations and stylus faults -/

/-- The end of a calibration in progress, which there is in SETUP alone, leaves its head OFF. -/
theorem State.endCal_coherent (h : Head) (s : State) (hs : s.jobView.Coherent) (hcal : s.calibrating h = true) :
    (s.endCal h).jobView.Coherent := by
  have hx := hs.sound.seats h
  have hst : (s.jobView.seat h).state = .calibrating := hx.calibrating.mp hcal
  have hsetup : s.jobView.state = .setup := by
    by_contra hne
    exact (hx.outside hne).1 hst
  have hown : State.jobSeat h (s.endCal h) = { s.jobSeat h with state := .off, calibrating := false } := by
    rw [State.endCal, State.updChannel_jobSeat, if_pos rfl, State.updCal_jobSeat, if_pos rfl]
    rfl
  have hput := State.jobView_eq_put (s := s) (t := s.endCal h) h rfl rfl (fun k hk => by
    rw [State.endCal, State.updChannel_jobSeat, if_neg hk, State.updCal_jobSeat, if_neg hk])
  have hidle : s.jobView.seat h = s.jobSeat h := rfl
  rw [hidle] at hst hx
  rw [hput, hown]
  refine ⟨hs.sound.put ?_ ?_ ?_, hs.tracked.put nofun⟩
  · exact
      { calibrating := iff_of_false nofun nofun
        tracked := fun ht => by cases hst.symm.trans (hx.tracked ht)
        setup := fun _ => .inl rfl
        outside := fun hne => absurd hsetup hne
        armed := fun _ => .inl rfl
        finished := fun _ => rfl
        demand := hx.demand
        emptied := fun _ => hx.emptied (by rw [hst]; rfl) }
  · rw [hidle, hst]
    rfl
  · rw [hidle, hst]
    exact iff_of_false nofun nofun

theorem State.failCal_coherent (h : Head) (cause : CalCause) (detail : CalDetail) (s : State)
    (hs : s.jobView.Coherent) (hcal : s.calibrating h = true) : (s.failCal h cause detail).jobView.Coherent :=
  State.endCal_coherent h (s.post (s.failEvent h cause detail)) hs hcal

theorem State.failAllCals_coherent (cause : CalCause) (s : State) (hs : s.jobView.Coherent) :
    (s.failAllCals cause).jobView.Coherent :=
  forHeads_keeps (fun u : State => u.jobView.Coherent) _ (fun h u hu => by
    split
    · exact u.failCal_coherent h cause _ hu ‹_›
    · exact hu) s hs

/-- A stylus fault of an active head, or of a calibrating one, acts on a coherent job. -/
theorem State.actFault_coherent (h : Head) (fault : StylusFault) (action : FaultAction) (s : State)
    (hs : s.jobView.Coherent) (hpark : action = .parked → s.active h = true)
    (hfail : action = .calibrationFailed → s.calibrating h = true) : (s.actFault h fault action).jobView.Coherent := by
  cases action with
  | none => exact hs
  | parked =>
    rw [State.actFault, State.leaveJob_jobView]
    exact hs.leave (hs.sound.mayPark (hpark rfl))
  | aborted => exact s.abortJob_coherent _ hs
  | calibrationFailed => exact s.failCal_coherent h _ _ hs (hfail rfl)

/-- A fault parks only an active head, and fails only a calibration in progress. -/
theorem State.faultAction_acts (h : Head) (s : State) (hs : s.jobView.Sound) :
    (s.faultAction h = .parked → s.active h = true) ∧
      (s.faultAction h = .calibrationFailed → s.calibrating h = true) := by
  have hcal : s.calibrating h = true ↔ s.channelState h = .calibrating := (hs.seats h).calibrating
  rw [hcal, State.active]
  unfold State.faultAction
  cases s.channelState h with
  | cutting =>
    refine ⟨fun _ => rfl, fun hf => ?_⟩
    cases he : s.headEntry h <;> simp only [he] at hf
    · cases hf
    · split at hf <;> cases hf
  | calibrating => exact ⟨nofun, fun _ => rfl⟩
  | off | primed | waiting | done | parked | halted => exact ⟨nofun, nofun⟩

/-! ## Sheds -/

/-- Sheds of heads of a job outside SETUP keep its coherence, and whatever else a parking keeps. -/
theorem State.shedAll_view (P : JobView → Prop) (hP : ∀ v h, P v → v.MayLeave h .parked → P (v.leave h .parked))
    (o : ShedOccasion) (budget before : Nat) (sheds : List Shed) (s : State) (hs : P s.jobView)
    (hset : s.jobView.state ≠ .setup) (hmem : ∀ h, isShed sheds h = true → s.jobView.entry h ≠ none) :
    P (s.shedAll o budget before sheds).jobView := by
  have hkept := forHeads_keeps
    (fun u : State => P u.jobView ∧ u.jobView.state ≠ .setup ∧ ∀ h, u.jobView.entry h = s.jobView.entry h)
    (State.shedIfRemoved o budget before sheds) (fun h u hu => ?_) s ⟨hs, hset, fun _ => rfl⟩
  · exact hkept.1
  obtain ⟨hu, huset, huent⟩ := hu
  unfold State.shedIfRemoved
  cases hx : shedOf sheds h with
  | none => exact ⟨hu, huset, huent⟩
  | some x =>
    have hshed : isShed sheds h = true := by rw [isShed, hx]; rfl
    have hmay : u.jobView.MayLeave h .parked := ⟨huset, huent h ▸ hmem h hshed, .inl rfl⟩
    have hview : (u.shedHead o budget before x).jobView = u.jobView.leave h .parked := by
      rw [State.shedHead, State.leaveJob_jobView, shedOf_head hx]
      rfl
    simp only [hview]
    refine ⟨hP _ _ hu hmay, ?_, fun k => (JobView.leave_entry h k _ _).trans (huent k)⟩
    rcases JobView.leave_state h .parked u.jobView with hl | hl <;> rw [hl]
    · exact huset
    · exact nofun

end Sys2Proof.Machine
end

section
/-! SUPPORT. Forward counts and revolution boundaries leave the job and its channels coherent (O47). -/

namespace Sys2Proof.Machine

/-! ## Forward counts -/

theorem Queue.addWord_inProgress (word : Nat) (q : Queue) :
    (q.updHead (TrackRecord.addWord word)).inProgress.isSome = q.inProgress.isSome ∧
      (q.updHead (TrackRecord.addWord word)).records.isEmpty = q.records.isEmpty := by
  have hcut : ∀ r : TrackRecord, (r.addWord word).isCutting = r.isCutting := fun r => by
    cases hst : r.state <;> simp [TrackRecord.addWord, TrackRecord.isCutting, hst]
  unfold Queue.updHead
  cases hq : q.records with
  | nil => simp [hq]
  | cons r rest =>
    refine ⟨?_, rfl⟩
    simp only [Queue.inProgress, hq, hcut]
    split <;> rfl

theorem State.emit_jobView (h : Head) (k : Stroke) (s : State) : (s.emit h k).jobView = s.jobView := by
  have hwear : ∀ c : Channel, (c.countWear k.closed).state = c.state := fun c => by
    unfold Channel.countWear
    split <;> rfl
  have henter : ∀ u : State, (u.enterStroke h k.word k.closed).jobView = u.jobView := fun u =>
    State.jobView_congr (by simp) (by simp) (by simp) (by simp) (by simp) (by simp)
  rw [State.emit, State.updChannel_jobView h Channel.advance _ rfl, State.updChannel_jobView h _ _ (hwear _), henter,
    State.updChannel_jobView h (Channel.present k.word) _ rfl]

theorem State.setAccumulator_jobView (h : Head) (v : Nat) (s : State) : (s.setAccumulator h v).jobView = s.jobView :=
  s.updChannel_jobView h _ rfl

/-- A count at a head leaves the job and its seats. -/
theorem State.countHead_jobView (angle : Nat) (h : Head) (s : State) : (s.countHead angle h).jobView = s.jobView := by
  unfold State.countHead
  cases s.cutOf h with
  | nothing => rfl
  | track r =>
    simp only [State.trackCount]
    split
    · split
      · exact s.setAccumulator_jobView h _
      · obtain ⟨htrack, hempty⟩ :=
          Queue.addWord_inProgress (s.trackStroke h r angle).word (s.queues.get h)
        rw [State.emit_jobView]
        refine (State.updQueue_jobView h _ _ ?_ ?_).trans ?_
        · exact htrack
        · exact hempty
        · rw [State.updCells_jobView, State.setAccumulator_jobView]
    · rfl
  | test u =>
    simp only [State.testCount]
    split
    · split
      · exact s.setAccumulator_jobView h _
      · rw [State.emit_jobView, State.setAccumulator_jobView]
    · rfl

/-- A monitor lost by a count acts on a coherent job. -/
theorem State.countHead_actLost_coherent (angle : Nat) (h : Head) (s : State) (hs : s.jobView.Coherent) :
    ((s.countHead angle h).actLost h (s.faultAction h)).jobView.Coherent := by
  obtain ⟨hpark, hfail⟩ := s.faultAction_acts h hs.sound
  have hview := s.countHead_jobView angle h
  have hseat : (s.countHead angle h).jobSeat h = s.jobSeat h := congrArg (fun v => v.seat h) hview
  injection hseat with hstate _ _ hcal
  refine State.actFault_coherent h _ _ _ (hview ▸ hs) (fun ha => ?_) (fun ha => hcal.trans (hfail ha))
  rw [State.active, hstate]
  exact hpark ha

theorem State.countThenAct_coherent (angle : Nat) (h : Head) (s : State) (hs : s.jobView.Coherent) :
    (s.countThenAct angle h).jobView.Coherent := by
  unfold State.countThenAct
  split
  · exact s.countHead_actLost_coherent angle h hs
  · exact s.countHead_jobView angle h ▸ hs

theorem State.countThenPark_coherent (angle : Nat) (h : Head) (s : State) (hs : s.jobView.Coherent) :
    (s.countThenPark angle h).jobView.Coherent := by
  unfold State.countThenPark
  split
  · exact s.countHead_actLost_coherent angle h hs
  · exact s.countHead_jobView angle h ▸ hs

theorem State.countAll_coherent (angle : Nat) (s : State) (hs : s.jobView.Coherent) :
    (s.countAll angle).jobView.Coherent := by
  have hact := forHeads_keeps (fun u : State => u.jobView.Coherent) _ (State.countThenAct_coherent angle)
  have hpark := forHeads_keeps (fun u : State => u.jobView.Coherent) _ (State.countThenPark_coherent angle)
  by_cases habort : ∃ h, s.countAborts h = true
  · rcases s.countAll_of_abort angle habort with hfirst | hlast
    · rw [hfirst]
      exact hact _ hs
    · rw [hlast]
      exact State.abortJob_coherent _ _ (hpark _ hs)
  · rw [s.countAll_of_no_abort angle (fun h => Bool.eq_false_iff.mpr fun hh => habort ⟨h, hh⟩)]
    exact hact _ hs

/-! ## The calibrations at a boundary -/

theorem State.startCut_jobView (h : Head) (u : CalSetup) (s : State) (hcal : s.calibrating h = true) :
    (s.startCut h u).jobView = s.jobView := by
  rw [State.startCut, State.updMonitor_jobView,
    State.updChannel_jobView h (fun c => { c with cellIndex := 0, accumulator := testStart s.counts }) _ rfl,
    State.updCal_jobView h (fun r => { r with phase := .cut u }) _ hcal.symm]

theorem State.calBoundary_coherent (h : Head) (s : State) (hs : s.jobView.Coherent) :
    (s.calBoundary h).jobView.Coherent := by
  unfold State.calBoundary
  cases hphase : (s.cals.get h).phase with
  | none | awaitMeasure u => exact hs
  | waitIndex u =>
    have hcal : s.calibrating h = true := by rw [State.calibrating, hphase]; rfl
    exact s.startCut_jobView h u hcal ▸ hs
  | cut u =>
    have hcal : s.calibrating h = true := by rw [State.calibrating, hphase]; rfl
    simp only [State.endCut]
    split
    · exact s.failCal_coherent h _ _ hs hcal
    · rw [State.updCal_jobView h (fun r => { r with phase := .awaitMeasure u, timer := some u.timeout }) (s.post _)
        hcal.symm]
      exact hs

/-! ## The retirements -/

/-- Behind the track in progress stands no other. -/
theorem Queue.Shaped.retired_untracked {q : Queue} (hq : q.Shaped) : q.retired.inProgress.isSome = false := by
  have horder := hq.order
  unfold Queue.retired Queue.inProgress
  match hr : q.records with
  | [] => rfl
  | [a] => rfl
  | a :: b :: rest =>
    rw [hr] at horder
    simp [horder.1.2.2.2]

/-- Behind a FINAL track stands no record. -/
theorem Queue.Shaped.alone_of_final {q : Queue} (hq : q.Shaped) {r : TrackRecord} (hr : q.inProgress = some r)
    (hf : r.final = true) : q.retired.records.isEmpty = true := by
  obtain ⟨rest, hrec, -⟩ := q.inProgress_cutting r hr
  have horder := hq.order
  rw [hrec] at horder
  unfold Queue.retired
  rw [hrec]
  match rest, horder with
  | [], _ => rfl
  | b :: tail, horder => cases hf.symm.trans horder.1.2.2.1

theorem State.retireTrack_heads (h : Head) (r : TrackRecord) (s : State) :
    (s.retireTrack h r).queues = s.queues.set h (s.queues.get h).retired ∧
      (s.retireTrack h r).dbu = { s.dbu with demand := s.dbu.demand.set h 0 } := by
  unfold State.retireTrack
  dsimp only
  split
  · split <;> exact ⟨rfl, rfl⟩
  · exact ⟨rfl, rfl⟩

/-- A seat whose track has been retired. -/
def JobSeat.retired (vacant : Bool) (x : JobSeat) : JobSeat :=
  { x with tracking := false, vacant := vacant, demand := 0 }

theorem State.retireTrack_jobView (h : Head) (r : TrackRecord) (s : State) (hq : (s.queues.get h).Shaped) :
    (s.retireTrack h r).jobView =
      s.jobView.put h ((s.jobSeat h).retired (s.queues.get h).retired.records.isEmpty) := by
  obtain ⟨-, hctu, hjob, hchannels, -, hcals, -⟩ := s.retireTrack_frame h r
  obtain ⟨hqueues, hdbu⟩ := s.retireTrack_heads h r
  have hown : State.jobSeat h (s.retireTrack h r) =
      (s.jobSeat h).retired (s.queues.get h).retired.records.isEmpty := by
    simp only [State.jobSeat, State.channelState, State.calibrating, JobSeat.retired, hchannels, hcals, hqueues, hdbu,
      PerHead.get_set_same, hq.retired_untracked]
  rw [State.jobView_eq_put h hjob hctu (fun k hk => ?_), hown]
  refine State.jobSeat_congr (by rw [hchannels]) ?_ (by rw [hcals]) ?_
  · rw [hqueues, PerHead.get_set_other _ _ _ _ hk]
  · rw [hdbu]
    exact PerHead.get_set_other _ _ _ _ hk

/-- A head whose FINAL track was retired leaves as DONE. -/
theorem State.finishHead_jobView (h : Head) (s : State) (hx : { s.jobSeat h with state := .done } =
    (s.jobSeat h).left .done) : (s.finishHead h).jobView = s.jobView.leave h .done := by
  have hview : (s.updChannel h (Channel.leave .done .finalDone)).jobView =
      s.jobView.put h ((s.jobSeat h).left .done) := by
    rw [State.jobView_eq_put (s := s) (t := s.updChannel h (Channel.leave .done .finalDone)) h rfl rfl
      (fun k hk => by rw [State.updChannel_jobSeat, if_neg hk]), State.updChannel_jobSeat, if_pos rfl, ← hx]
    rfl
  rw [State.finishHead, State.endJob_jobView, State.post_jobView, State.dropFeed_jobView, hview, JobView.leave]
  rfl

/-- The retirement at a head leaves job and seats sound and no track in progress there, and keeps which other heads
have one. -/
theorem State.retireHead_sound (h : Head) (s : State) (hq : s.QueuesShaped) (hs : s.jobView.Sound) :
    (s.retireHead h).jobView.Sound ∧ ((s.retireHead h).jobView.seat h).tracking = false ∧
      ∀ k, k ≠ h → ((s.retireHead h).jobView.seat k).tracking = (s.jobView.seat k).tracking := by
  have hx := hs.seats h
  by_cases hcut : s.channelState h = .cutting
  case neg =>
    rw [State.retireHead, if_neg hcut]
    exact ⟨hs, Bool.eq_false_iff.mpr fun ht => hcut (hx.tracked ht), fun _ _ => rfl⟩
  cases hr : (s.queues.get h).inProgress with
  | none =>
    have hsame : s.retireHead h = s := by simp only [State.retireHead, hcut, hr, if_true]
    rw [hsame]
    exact ⟨hs, by simp [State.jobView, State.jobSeat, hr], fun _ _ => rfl⟩
  | some r =>
    have hactive : activeState (s.jobView.seat h).state = true := by
      show activeState (s.channelState h) = true
      rw [hcut]
      rfl
    obtain ⟨hset, hmem⟩ := hs.member_of_active hactive
    have hjob : s.jobView.state ≠ .armed := by
      rcases hs.running_of_cutting hcut with hj | hj <;> rw [hj] <;> exact nofun
    have hview := s.retireTrack_jobView h r (hq h)
    have hretired : (s.retireTrack h r).jobView.Sound := by
      rw [hview]
      exact hs.put ⟨hx.calibrating, nofun, hx.setup, hx.outside, hx.armed, hx.finished, fun _ => rfl,
        fun ha => by cases hactive.symm.trans ha⟩ rfl Iff.rfl
    have hmay : ∀ st, st = .halted ∨ st = .done → (s.retireTrack h r).jobView.MayLeave h st := fun st hst => by
      rw [hview]
      exact ⟨hset, hmem, .inr ⟨hst, hjob⟩⟩
    have hleave : ∀ st, st = .halted ∨ st = .done →
        ((s.retireTrack h r).jobView.leave h st).Sound ∧
          (((s.retireTrack h r).jobView.leave h st).seat h).tracking = false ∧
          ∀ k, k ≠ h →
            (((s.retireTrack h r).jobView.leave h st).seat k).tracking = (s.jobView.seat k).tracking := by
      refine fun st hst => ⟨hretired.leave (hmay st hst), ?_, fun k hk => ?_⟩
      · rw [JobView.leave_seat, if_pos rfl]
        rfl
      · rw [JobView.leave_seat, if_neg hk, hview, JobView.put_seat_other hk]
    simp only [State.retireHead, hcut, hr, if_true]
    split
    · rename_i hfinal
      have hseat : State.jobSeat h (s.retireTrack h r) = (s.jobSeat h).retired true := by
        have := congrArg (fun v => v.seat h) hview
        rwa [JobView.put_seat_same, (hq h).alone_of_final hr hfinal] at this
      rw [State.finishHead_jobView h _ (by rw [hseat]; rfl)]
      exact hleave .done (.inr rfl)
    split
    · rw [State.leaveJob_jobView]
      exact hleave .halted (.inl rfl)
    · rw [hview] at hretired ⊢
      exact ⟨hretired, by rw [JobView.put_seat_same]; rfl, fun k hk => by rw [JobView.put_seat_other hk]⟩

/-- After the retirements of a boundary no channel has a track in progress. -/
theorem State.retireHeads_sound (s : State) (hq : s.QueuesShaped) (hs : s.jobView.Sound) :
    (forHeads State.retireHead s).jobView.Sound ∧ (forHeads State.retireHead s).jobView.Untracked := by
  have hdone := forHeads_induction
    (fun i u => State.QueuesShaped u ∧ u.jobView.Sound ∧ ∀ k : Head, k.val < i → (u.jobView.seat k).tracking = false)
    State.retireHead (fun h u hu => ?_) (s := s) ⟨hq, hs, nofun⟩
  · exact ⟨hdone.2.1, fun k => hdone.2.2 k k.isLt⟩
  obtain ⟨huq, hus, hretired⟩ := hu
  obtain ⟨hsound, hown, hother⟩ := u.retireHead_sound h huq hus
  refine ⟨(u.retireHead_moves h).queuesShaped huq, hsound, fun k hk => ?_⟩
  by_cases hkh : k = h
  · rw [hkh, hown]
  · have hne : k.val ≠ h.val := fun hv => hkh (Fin.ext hv)
    rw [hother k hkh, hretired k (by omega)]

/-- In job STOPPING a boundary halts an active head; it halts none in another job state. -/
theorem State.stopHead_sound (h : Head) (s : State) (hs : s.jobView.Sound) (hu : s.jobView.Untracked) :
    (s.stopHead h).jobView.Sound ∧ (s.stopHead h).jobView.Untracked ∧
      ((s.stopHead h).jobView.state = .stopping → s.jobView.state = .stopping ∧
        activeState ((s.stopHead h).jobView.seat h).state = false ∧
        ∀ k, k ≠ h → (s.stopHead h).jobView.seat k = s.jobView.seat k) := by
  by_cases hstop : s.job.state = .stopping ∧ s.active h = true
  · obtain ⟨hjob, ha⟩ := hstop
    obtain ⟨hset, hmem⟩ := hs.member_of_active (h := h) ha
    have hview : (s.stopHead h).jobView = s.jobView.leave h .halted := by
      rw [State.stopHead, hjob, ha]
      exact s.leaveJob_jobView h .halted .stopCommand
    have hmay : s.jobView.MayLeave h .halted := ⟨hset, hmem, .inr ⟨.inl rfl, by
      show s.job.state ≠ .armed
      rw [hjob]
      exact nofun⟩⟩
    rw [hview]
    refine ⟨hs.leave hmay, hu.leave h _, fun _ => ⟨hjob, ?_, fun k hk => ?_⟩⟩
    · rw [JobView.leave_seat, if_pos rfl]
      rfl
    · rw [JobView.leave_seat, if_neg hk]
  · have hsame : s.stopHead h = s := by
      rw [State.stopHead, if_neg]
      rwa [Bool.and_eq_true, decide_eq_true_eq]
    rw [hsame]
    refine ⟨hs, hu, fun hjob => ⟨hjob, Bool.eq_false_iff.mpr fun ha => hstop ⟨hjob, ha⟩, fun _ _ => rfl⟩⟩

/-- After a boundary no job is STOPPING: all its heads have left it. -/
theorem State.stopHeads_sound (s : State) (hs : s.jobView.Sound) (hu : s.jobView.Untracked) :
    (forHeads State.stopHead s).jobView.Sound ∧ (forHeads State.stopHead s).jobView.Untracked ∧
      (forHeads State.stopHead s).jobView.state ≠ .stopping := by
  have hdone := forHeads_induction
    (fun i u => JobView.Sound (State.jobView u) ∧ u.jobView.Untracked ∧
      (u.jobView.state = .stopping → ∀ k : Head, k.val < i → activeState (u.jobView.seat k).state = false))
    State.stopHead (fun h u hu => ?_) (s := s) ⟨hs, hu, fun _ => nofun⟩
  · obtain ⟨hsound, huntracked, hidle⟩ := hdone
    refine ⟨hsound, huntracked, fun hjob => ?_⟩
    obtain ⟨k, hk⟩ := hsound.live.mp (by rw [hjob]; rfl)
    cases hk.symm.trans (hidle hjob k k.isLt)
  obtain ⟨hus, huu, hidle⟩ := hu
  obtain ⟨hsound, huntracked, hstop⟩ := u.stopHead_sound h hus huu
  refine ⟨hsound, huntracked, fun hjob k hk => ?_⟩
  obtain ⟨hwas, hown, hother⟩ := hstop hjob
  by_cases hkh : k = h
  · rw [hkh, hown]
  · have hne : k.val ≠ h.val := fun hv => hkh (Fin.ext hv)
    rw [hother k hkh]
    exact hidle hwas k (by omega)

/-! ## The decision -/

theorem Queue.begin_inProgress {q : Queue} {r : TrackRecord} (hr : q.ready = some r) :
    (q.updHead TrackRecord.begin).inProgress.isSome = true := by
  obtain ⟨rest, hrec, -⟩ := q.ready_complete r hr
  simp [Queue.updHead, hrec, Queue.inProgress, TrackRecord.begin, TrackRecord.isCutting]

/-- The seats after the track starts of a GO. -/
theorem State.startAll_jobSeat (d : Head → Nat) (u : State) (h : Head) :
    (u.active h = false → State.jobSeat h (u.startAll d) = u.jobSeat h) ∧
      ∀ r, u.active h = true → (u.queues.get h).ready = some r →
        (State.jobSeat h (u.startAll d)).state = .cutting ∧ (State.jobSeat h (u.startAll d)).tracking = true ∧
          (State.jobSeat h (u.startAll d)).calibrating = (u.jobSeat h).calibrating := by
  have hview := u.startAll_startView d h
  have hcals : (u.startAll d).cals = u.cals := by simp
  refine ⟨fun ha => ?_, fun r ha hr => ?_⟩
  · rw [State.start_of_inactive _ ha] at hview
    injection hview with hchannel hqueue _ hdemand
    exact State.jobSeat_congr hchannel hqueue (by rw [hcals]) hdemand
  · rw [State.start_of_ready _ ha hr] at hview
    injection hview with hchannel hqueue
    refine ⟨?_, ?_, ?_⟩
    · show ((u.startAll d).channels.get h).state = .cutting
      rw [hchannel]
      rfl
    · show ((u.startAll d).queues.get h).inProgress.isSome = true
      rw [hqueue]
      exact Queue.begin_inProgress hr
    · show ((u.startAll d).cals.get h).phase.setup?.isSome = (u.cals.get h).phase.setup?.isSome
      rw [hcals]

/-- A granted GO of a RUNNING job starts a track on every channel that stays active. -/
theorem State.go_coherent (s : State) (hs : s.jobView.Sound) (hu : s.jobView.Untracked) (hj : s.job.state = .running)
    (hg : s.granted = true) : s.go.jobView.Coherent := by
  have hset : s.jobView.state = .running := hj
  have hshed := State.shedAll_view (fun v => v.Sound ∧ v.Untracked ∧ v.state ≠ .armed)
    (fun v h hv hm => ⟨hv.1.leave hm, hv.2.1.leave h _, by
      rcases JobView.leave_state h .parked v with hl | hl <;> rw [hl]
      · exact hv.2.2
      · exact nofun⟩)
    .go (s.budgetOf s.dbu.bank) (sumDemands (fun h => s.nextDemand h) (allHeads.filter (fun h => s.active h)))
    s.goSheds s ⟨hs, hu, by rw [hset]; exact nofun⟩ (by rw [hset]; exact nofun)
    (fun h hh => (hs.member_of_active (h := h) (member_of_isShed hh)).2)
  obtain ⟨hsound, huntracked, harmed⟩ : s.goShed.jobView.Sound ∧ s.goShed.jobView.Untracked ∧
      s.goShed.jobView.state ≠ .armed := hshed
  have hjob : s.go.job = s.goShed.job := by
    unfold State.go State.goShed
    simp
  have hseat : ∀ h, s.go.jobView.seat h = State.jobSeat h (s.goShed.startAll (fun h => s.nextDemand h)) :=
    fun _ => rfl
  refine hsound.started harmed (congrArg Job.state hjob) (congrArg Job.record hjob) (fun h ha => ?_) (fun h ha => ?_)
    ?_ rfl
  · obtain ⟨r, hr, -⟩ := State.goShed_ready hg ha
    rw [hseat]
    exact (s.goShed.startAll_jobSeat _ h).2 r ha hr
  · rw [hseat]
    exact (s.goShed.startAll_jobSeat _ h).1 ha
  · rw [← s.go.anyCutting_iff_view, ← s.go_feedEn]
    rfl

/-- The channels of a HOLD before its limit is looked at. -/
theorem State.waitHeads_jobSeat (h : Head) (s : State) :
    State.jobSeat h (forHeads State.waitHead s) =
      if activeState (s.jobSeat h).state then { s.jobSeat h with state := .waiting } else s.jobSeat h := by
  rw [State.waitHeads_eq]
  unfold State.jobSeat State.channelState State.calibrating
  simp only [PerHead.get_mapIdx, Channel.wait]
  cases hst : (s.channels.get h).state <;> simp [activeState, Channel.enter, hst]

/-- The part after a HOLD, before its limit is looked at (R41). -/
def State.held (e : Event) (count total : Nat) (s : State) : State :=
  let posted := (forHeads State.waitHead { s with ctu := { s.ctu with feedEn := false } }).post e
  { posted with ctu := { posted.ctu with holdCount := count }, rpt := { posted.rpt with holdTotal := total } }

theorem State.hold_of_limit (s : State) (hlimit : s.ctu.holdCount = s.holdLimit) :
    s.hold =
      (s.held (.hold (!noHead s.lacking) (!s.withinHard) s.lacking s.ctu.holdCount) s.ctu.holdCount
        (saturate 65535 s.rpt.holdTotal)).abortJob (if !noHead s.lacking then .starved else .speed) := by
  simp only [State.hold, hlimit, decide_true, if_true, State.waitHeads_eq, State.held]
  rfl

theorem State.hold_of_below (s : State) (hlimit : s.ctu.holdCount ≠ s.holdLimit) :
    s.hold =
      s.held (.hold (!noHead s.lacking) (!s.withinHard) s.lacking (s.ctu.holdCount + 1)) (s.ctu.holdCount + 1)
        (saturate 65535 s.rpt.holdTotal) := by
  simp only [State.hold, hlimit, decide_false, Bool.false_eq_true, if_false, State.waitHeads_eq, State.held]
  rfl

theorem State.held_jobView (e : Event) (count total : Nat) (s : State) :
    (s.held e count total).jobView = s.jobView.wait count := by
  have hseats : (fun h => State.jobSeat h (forHeads State.waitHead { s with ctu := { s.ctu with feedEn := false } })) =
      (s.jobView.wait count).seat := funext fun h => State.waitHeads_jobSeat h _
  rw [State.waitHeads_eq] at hseats
  rw [State.held, State.waitHeads_eq]
  exact congrArg (fun seat => JobView.mk s.job.state s.job.record seat false count) hseats

/-- A HOLD leaves a RUNNING job coherent, aborted or not. -/
theorem State.hold_coherent (s : State) (hs : s.jobView.Sound) (hu : s.jobView.Untracked)
    (hj : s.job.state = .running) : s.hold.jobView.Coherent := by
  have hset : s.jobView.state = .running := hj
  have hcount : s.ctu.holdCount ≤ s.holdLimit := by
    rw [s.holdLimit_eq]
    exact hs.held (by rw [hset]; rfl)
  have hheld : ∀ (e : Event) (count total : Nat), count ≤ s.holdLimit →
      (s.held e count total).jobView.Coherent := fun e count total hle => by
    rw [State.held_jobView]
    exact hs.wait hu (by rw [hset]; exact nofun) (fun _ => s.holdLimit_eq ▸ hle)
  by_cases hlimit : s.ctu.holdCount = s.holdLimit
  · rw [s.hold_of_limit hlimit]
    exact State.abortJob_coherent _ _ (hheld _ _ _ hcount)
  · rw [s.hold_of_below hlimit]
    exact hheld _ _ _ (by omega)

/-- The decision of a boundary leaves the job coherent. -/
theorem State.decideRevolution_coherent (s : State) (hs : s.jobView.Sound) (hu : s.jobView.Untracked)
    (hstop : s.jobView.state ≠ .stopping) : s.decideRevolution.jobView.Coherent := by
  unfold State.decideRevolution
  split
  · rename_i hdue
    rw [Bool.and_eq_true, decide_eq_true_eq] at hdue
    split
    · exact s.go_coherent hs hu hdue.1 ‹_›
    · exact s.hold_coherent hs hu hdue.1
  · rename_i hdue
    refine ⟨hs, fun h hc => absurd ?_ hdue⟩
    have hrun : s.job.state = .running := (hs.running_of_cutting hc).resolve_right hstop
    have hactive : s.anyActive = true := s.anyActive_iff_view.mpr ⟨h, by rw [hc]; rfl⟩
    rw [hrun, hactive]
    rfl

/-! ## The boundary -/

/-- An abort of a live job leaves it coherent, wherever within a boundary it comes. -/
theorem State.abortJob_of_sound (cause : StopCause) (s : State) (hs : s.jobView.Sound)
    (hlive : jobLive s.job.state = true) : (s.abortJob cause).jobView.Coherent := by
  rw [s.abortJob_jobView cause hlive]
  exact hs.abort hlive

theorem State.boundaryBlocks_sound (slipped : Bool) (s : State) (hq : s.QueuesShaped) (hs : s.jobView.Coherent) :
    (s.boundaryBlocks slipped).jobView.Sound ∧ (s.boundaryBlocks slipped).jobView.Untracked ∧
      (s.boundaryBlocks slipped).jobView.state ≠ .stopping := by
  have hcals : ∀ u : State, Moves s u → u.jobView.Coherent →
      (forHeads State.stopHead (forHeads State.retireHead u)).jobView.Sound ∧
        (forHeads State.stopHead (forHeads State.retireHead u)).jobView.Untracked ∧
        (forHeads State.stopHead (forHeads State.retireHead u)).jobView.state ≠ .stopping := fun u hm hu => by
    obtain ⟨hsound, huntracked⟩ := u.retireHeads_sound (hm.queuesShaped hq) hu.sound
    exact State.stopHeads_sound _ hsound huntracked
  unfold State.boundaryBlocks
  dsimp only
  split
  · exact hcals _ (s.failAllCals_moves _) (s.failAllCals_coherent _ hs)
  · exact hcals _ (Moves.forHeads _ (fun h u => u.calBoundary_moves h) s)
      (forHeads_keeps (fun u : State => u.jobView.Coherent) _ State.calBoundary_coherent s hs)

/-- The timing supervision of a boundary leaves the job and its seats. -/
theorem periodNoted_jobView (t : TimingSettings) (time : Nat) (slip : Option Int) (s : State) :
    (Claims.periodNoted t time (Claims.slipNoted t.slipTolerance slip s)).jobView = s.jobView ∧
      (Claims.periodNoted t time (Claims.slipNoted t.slipTolerance slip s)).queues = s.queues := by
  rw [← State.measurePeriod_eq, State.measurePeriod_jobView]
  cases slip with
  | none => exact ⟨rfl, by simp [Claims.slipNoted]⟩
  | some x =>
    rw [← State.noteSlip_eq]
    exact ⟨State.noteSlip_jobView t x s, by simp⟩

theorem State.boundary_coherent (t : TimingSettings) (time : Nat) (slip : Option Int) (s : State)
    (hq : s.QueuesShaped) (hs : s.jobView.Coherent) : (s.boundary t time slip).jobView.Coherent := by
  obtain ⟨hview, hqueues⟩ := periodNoted_jobView t time slip s
  obtain ⟨hsound, huntracked, hstop⟩ := State.boundaryBlocks_sound (slipped t slip)
    (Claims.periodNoted t time (Claims.slipNoted t.slipTolerance slip s))
    (fun h => by rw [hqueues]; exact hq h) (hview ▸ hs)
  rw [← served_eq] at hsound huntracked hstop
  rw [State.boundary_eq]
  split
  · rename_i habort
    rw [Bool.and_eq_true] at habort
    have hlive : jobLive (Claims.served t time slip s).job.state = true :=
      (jobLive_iff _).mpr (.inr ((jobCutting_iff _).mp habort.2))
    exact State.abortJob_of_sound _ _ hsound hlive
  · exact State.decideRevolution_coherent _ hsound huntracked hstop

end Sys2Proof.Machine
end

section
/-! SUPPORT. Every command and every part of a track leaves the job and its channels coherent (O47). -/

namespace Sys2Proof.Machine

/-! ## Commands that leave the job and its seats -/

/-- What a command keeps of the coherence of the job: what its own block keeps where it is available. -/
theorem command_coherent {c : CommandName} {tag : Half} {p : List Byte} {body : State → Answer} {s t : State}
    (hs : s.jobView.Coherent) (hb : commandAvailable c s.job.state = true → (body s).1.jobView.Coherent)
    (h : command c tag p body s = .next t) : t.jobView.Coherent :=
  command_keeps (fun u : State => u.jobView.Coherent) (fun _ _ hu => hu) hs hb h

/-- A command whose block leaves the job and its seats. -/
theorem command_coherent_of_view {c : CommandName} {tag : Half} {p : List Byte} {body : State → Answer} {s t : State}
    (hs : s.jobView.Coherent) (hb : (body s).1.jobView = s.jobView) (h : command c tag p body s = .next t) :
    t.jobView.Coherent :=
  command_coherent hs (fun _ => hb ▸ hs) h

theorem serve_coherent {f : State → State} {s t : State} (hs : s.jobView.Coherent) (hf : (f s).jobView.Coherent)
    (h : serve f s = .next t) : t.jobView.Coherent :=
  serve_keeps (fun u : State => u.jobView.Coherent) (fun _ hu => hu) hs hf h

theorem timingSet_jobView (p : List Byte) (s : State) : (timingSet p s).1.jobView = s.jobView := by
  unfold timingSet
  split
  · rfl
  · split <;> rfl

theorem tableCommit_jobView (p : List Byte) (s : State) : (tableCommit p s).1.jobView = s.jobView := by
  unfold tableCommit
  dsimp only
  repeat' split
  all_goals rfl

theorem tableErase_jobView (p : List Byte) (s : State) : (tableErase p s).1.jobView = s.jobView := by
  unfold tableErase
  dsimp only
  repeat' split
  all_goals rfl

theorem tableDiscard_jobView (s : State) : (tableDiscard s).1.jobView = s.jobView := by
  unfold tableDiscard
  split <;> rfl

theorem tableReadStart_jobView (p : List Byte) (s : State) : (tableReadStart p s).1.jobView = s.jobView := by
  unfold tableReadStart
  dsimp only
  repeat' split
  all_goals rfl

theorem tableReadContinue_jobView (s : State) : (tableReadContinue s).1.jobView = s.jobView := by
  unfold tableReadContinue
  split <;> rfl

theorem calApply_jobView (p : List Byte) (s : State) : (calApply p s).1.jobView = s.jobView := by
  unfold calApply
  repeat' split
  case h_4 =>
    exact State.updCal_jobView _ (fun r => { r with proposal := none }) { s with store := s.store.apply _ _ } rfl
  all_goals rfl

theorem stylusWear_jobView (p : List Byte) (s : State) : (stylusWear p s).1.jobView = s.jobView := by
  unfold stylusWear
  split
  · rfl
  · split
    · rfl
    · exact s.updChannel_jobView _ _ rfl

theorem noticeMask_jobView (p : List Byte) (s : State) : (noticeMask p s).1.jobView = s.jobView := by
  unfold noticeMask
  split <;> rfl

theorem noticeSkip_jobView (p : List Byte) (s : State) : (noticeSkip p s).1.jobView = s.jobView := by
  unfold noticeSkip
  split <;> rfl

theorem countersRead_jobView (p : List Byte) (s : State) : (countersRead p s).1.jobView = s.jobView := by
  unfold countersRead
  split <;> rfl

theorem countersClear_jobView (p : List Byte) (s : State) : (countersClear p s).1.jobView = s.jobView := by
  unfold countersClear
  split <;> rfl

/-! ## JOB DEFINE -/

/-- A head set in 1 to 15 names a head. -/
theorem inHeadSet_of_within (p : List Byte) (h : within 1 15 (field p 2 1) = true) : ∃ k, inHeadSet p k = true := by
  have hset : ∀ b : Byte, 1 ≤ b.toNat → b.toNat ≤ 15 → ∃ k : Head, b.getLsbD k.val = true := by decide
  have hbyte : field p 2 1 = (p.getD 2 0).toNat := by
    unfold field
    rw [List.getD_eq_getElem?_getD, ← List.head?_drop]
    cases p.drop 2 <;> simp [beNat]
  rw [hbyte, within, Bool.and_eq_true, decide_eq_true_eq, decide_eq_true_eq] at h
  exact hset _ h.1 h.2

/-- A record defined in SETUP that names a head. -/
theorem JobView.Coherent.defined {v : JobView} (hv : v.Coherent) (hj : v.state = .setup) {r : JobRecord}
    (hr : ∃ h : Head, (r.heads.get h).isSome = true) : JobView.Coherent { v with record := some r } := by
  refine ⟨⟨fun h => ?_, hv.sound.live, hv.sound.feed, fun hc => ?_, fun hne => absurd hj hne, fun q hq => ?_⟩,
    hv.tracked⟩
  · have hx := hv.sound.seats h
    exact ⟨hx.calibrating, hx.tracked, hx.setup, fun hne => absurd hj hne, hx.armed, hx.finished, hx.demand, hx.emptied⟩
  · have hc : jobCutting v.state = true := hc
    rw [hj] at hc
    cases hc
  · cases hq
    exact hr

theorem jobDefine_coherent (p : List Byte) (s : State) (hs : s.jobView.Coherent) (hj : s.job.state = .setup) :
    (jobDefine p s).1.jobView.Coherent := by
  unfold jobDefine
  split
  · exact hs
  · rename_i hnone
    refine hs.defined hj ?_
    have hset : within 1 15 (field p 2 1) = true :=
      (firstFailure_eq_none _).mp hnone (within 1 15 (field p 2 1), 2) (by simp)
    obtain ⟨h, hh⟩ := inHeadSet_of_within p hset
    exact ⟨h, by simp [definedRecord, definedEntry, hh]⟩

/-! ## ARM, DISARM and RELEASE -/

/-- A job that is not live, without an active channel, is coherent when its seats are sound and FEED_EN is dropped. -/
theorem JobView.coherent_of_idle {v : JobView} (hseats : ∀ h, (v.seat h).Sound v.state (v.entry h))
    (hlive : jobLive v.state = false) (hidle : ∀ h, activeState (v.seat h).state = false) (hfeed : v.feedEn = false)
    (hdefined : v.state ≠ .setup → v.record.isSome = true)
    (hnamed : ∀ r, v.record = some r → ∃ h : Head, (r.heads.get h).isSome = true) : v.Coherent := by
  have hcut : ∀ h, (v.seat h).state ≠ .cutting := fun h hc => by
    have := hidle h
    rw [hc] at this
    cases this
  have hrunning : jobCutting v.state = false := Bool.eq_false_iff.mpr fun hc => by
    rw [(jobLive_iff _).mpr (.inr ((jobCutting_iff _).mp hc))] at hlive
    cases hlive
  exact
    { sound :=
        { seats := hseats
          live := iff_of_false (Bool.eq_false_iff.mp hlive) fun ⟨h, ha⟩ => Bool.eq_false_iff.mp (hidle h) ha
          feed := iff_of_false (Bool.eq_false_iff.mp hfeed) fun ⟨h, hc⟩ => hcut h hc
          held := fun hc => absurd hc (Bool.eq_false_iff.mp hrunning)
          defined := hdefined
          named := hnamed }
      tracked := fun h hc => absurd hc (hcut h) }

/-- What an ARM makes of the view (R99). -/
def JobView.armed (r : JobRecord) (v : JobView) : JobView :=
  { v with
    state := .armed
    seat := fun h =>
      { v.seat h with
        state := if (r.heads.get h).isSome then .primed else (v.seat h).state, tracking := false, vacant := true } }

/-- An ARM of a job in SETUP without a calibration. -/
theorem JobView.Coherent.armed {v : JobView} (hv : v.Coherent) (hj : v.state = .setup) {r : JobRecord}
    (hr : v.record = some r) (hcal : ∀ h, (v.seat h).state ≠ .calibrating) : (v.armed r).Coherent := by
  have hoff : ∀ h, (v.seat h).state = .off := fun h => ((hv.sound.seats h).setup hj).resolve_right (hcal h)
  have hidle : ∀ h, (v.seat h).calibrating = false ∧ (v.seat h).demand = 0 := fun h => by
    have hx := hv.sound.seats h
    refine ⟨Bool.eq_false_iff.mpr fun hc => hcal h (hx.calibrating.mp hc),
      hx.demand (Bool.eq_false_iff.mpr fun ht => ?_)⟩
    cases (hoff h).symm.trans (hx.tracked ht)
  have hstate : ∀ h, ((v.armed r).seat h).state = if (r.heads.get h).isSome then .primed else .off := fun h => by
    rw [← hoff h]
    rfl
  have hentry : ∀ h, (v.armed r).entry h = r.heads.get h := fun h => by
    show v.record.bind _ = _
    rw [hr]
    rfl
  have hcut : ∀ h, ((v.armed r).seat h).state ≠ .cutting := fun h => by
    rw [hstate]
    split <;> exact nofun
  refine ⟨⟨fun h => ?_, ⟨fun _ => ?_, fun _ => rfl⟩, ?_, nofun, fun _ => ?_, hv.sound.named⟩,
    fun h hc => absurd hc (hcut h)⟩
  · have hmember : ((v.armed r).seat h).state = .off ↔ (v.armed r).entry h = none := by
      rw [hstate, hentry, ← Option.not_isSome_iff_eq_none]
      split <;> simp_all
    have hnot : ((v.armed r).seat h).state ≠ .calibrating := by
      rw [hstate]
      split <;> exact nofun
    have hcalibrating : ((v.armed r).seat h).calibrating = false := (hidle h).1
    exact
      { calibrating := iff_of_false (Bool.eq_false_iff.mp hcalibrating) hnot
        tracked := nofun
        setup := nofun
        outside := fun _ => ⟨hnot, hmember⟩
        armed := fun _ => by
          rw [hstate]
          split
          · exact .inr (.inl rfl)
          · exact .inl rfl
        finished := fun h => by rcases h with h | h <;> cases h
        demand := fun _ => (hidle h).2
        emptied := fun _ => rfl }
  · obtain ⟨h, hh⟩ := hv.sound.named r hr
    exact ⟨h, by rw [hstate, if_pos hh]; rfl⟩
  · refine iff_of_false (fun hf => ?_) (fun ⟨h, hc⟩ => hcut h hc)
    obtain ⟨h, hc⟩ := hv.sound.feed.mp hf
    cases (hoff h).symm.trans hc
  · show v.record.isSome = true
    rw [hr]
    rfl

theorem State.armJob_jobView (r : JobRecord) (s : State) : (s.armJob r).jobView = s.jobView.armed r := by
  have hseat : ∀ h, State.jobSeat h (s.armJob r) = (s.jobView.armed r).seat h := fun h => by
    have hchannel : (armedChannel r h (s.channels.get h)).state =
        if (r.heads.get h).isSome then .primed else (s.channels.get h).state := by
      unfold armedChannel
      split <;> rfl
    simp [State.jobSeat, State.channelState, State.calibrating, State.armJob, State.engage, hchannel, JobView.armed,
      State.jobView, Queue.prepared, Queue.inProgress]
  rw [State.jobView, funext hseat]
  rfl

/-- An ARM that is not refused finds no calibration in progress. -/
theorem State.calibratingHead_of_armRefusal {r : JobRecord} {s : State} (hnone : s.armRefusal r = none) :
    s.calibratingHead = none := by
  unfold State.armRefusal at hnone
  repeat' split at hnone
  all_goals cases hnone
  assumption

theorem arm_coherent (s : State) (hs : s.jobView.Coherent) (hj : s.job.state = .setup) :
    (arm s).1.jobView.Coherent := by
  unfold arm
  split
  · exact hs
  · rename_i r hr
    split
    · exact hs
    · rename_i hnone
      rw [State.armJob_jobView]
      refine hs.armed hj hr (fun h hc => ?_)
      have hsome := (calibratingHead_isSome s).mpr ⟨h, hc⟩
      rw [State.calibratingHead_of_armRefusal hnone] at hsome
      cases hsome

/-- What DISARM and RELEASE make of the view: every head OFF, in SETUP (R100, R103). -/
def JobView.freed (v : JobView) : JobView :=
  { v with
    state := .setup, seat := fun h => { v.seat h with state := .off, tracking := false, vacant := true } }

/-- A job outside SETUP without a CUTTING channel may be given up. -/
theorem JobView.Coherent.freed {v : JobView} (hv : v.Coherent) (hj : v.state ≠ .setup)
    (hcut : ∀ h, (v.seat h).state ≠ .cutting) : v.freed.Coherent := by
  refine JobView.coherent_of_idle (fun h => ?_) rfl (fun _ => rfl) (Bool.eq_false_iff.mpr fun hf => ?_)
    (fun hne => absurd rfl hne) hv.sound.named
  · have hx := hv.sound.seats h
    have hcal : (v.freed.seat h).calibrating = false := hx.not_calibrating hj
    exact
      { calibrating := iff_of_false (Bool.eq_false_iff.mp hcal) nofun
        tracked := nofun
        setup := fun _ => .inl rfl
        outside := fun hne => absurd rfl hne
        armed := nofun
        finished := fun _ => rfl
        demand := fun _ => hx.demand (Bool.eq_false_iff.mpr fun ht => hcut h (hx.tracked ht))
        emptied := fun _ => rfl }
  · obtain ⟨h, hc⟩ := hv.sound.feed.mp hf
    exact hcut h hc

theorem State.freeHeads_jobView (leaves : ChannelState → Bool) (s : State)
    (hoff : ∀ h, leaves (s.channelState h) = false → s.channelState h = .off) :
    (s.freeHeads leaves).jobView = s.jobView.freed := by
  have hseat : ∀ h, State.jobSeat h (s.freeHeads leaves) = s.jobView.freed.seat h := fun h => by
    have hchannel : (offIf leaves (s.channels.get h)).state = .off := by
      unfold offIf
      split
      · rfl
      · exact hoff h (Bool.eq_false_iff.mpr ‹_›)
    simp [State.jobSeat, State.channelState, State.calibrating, State.freeHeads, hchannel, JobView.freed,
      State.jobView, Queue.emptied, Queue.inProgress]
  rw [State.jobView, funext hseat]
  rfl

theorem disarm_coherent (s : State) (hs : s.jobView.Coherent) (hj : s.job.state = .armed) :
    (disarm s).1.jobView.Coherent := by
  have hstate : s.jobView.state = .armed := hj
  have hview : (disarm s).1.jobView = s.jobView.freed := by
    show (State.post _ (State.postAll _ _)).jobView = _
    rw [State.post_jobView, State.postAll_jobView]
    exact s.freeHeads_jobView notOff (fun h hh => by simpa [notOff] using hh)
  rw [hview]
  refine hs.freed (by rw [hstate]; exact nofun) (fun h hc => ?_)
  have := (hs.sound.seats h).armed hstate
  rw [hc] at this
  simp at this

/-- Every head of a job that is ENDED or ABORTED is OFF or has left it. -/
theorem departed_of_finished (s : State) (hs : s.jobView.Coherent) (hj : s.job.state = .ended ∨ s.job.state = .aborted)
    (h : Head) : departed (s.channelState h) = true ∨ s.channelState h = .off := by
  have hx := hs.sound.seats h
  have hset : s.jobView.state ≠ .setup := by
    show s.job.state ≠ .setup
    rcases hj with hj | hj <;> rw [hj] <;> exact nofun
  have hidle : activeState (s.channelState h) = false := hx.finished hj
  have hcal : s.channelState h ≠ .calibrating := (hx.outside hset).1
  cases hst : s.channelState h with
  | off => exact .inr rfl
  | done | parked | halted => exact .inl rfl
  | calibrating => exact absurd hst hcal
  | primed | waiting | cutting =>
    rw [hst] at hidle
    cases hidle

theorem release_coherent (s : State) (hs : s.jobView.Coherent) (hj : s.job.state = .ended ∨ s.job.state = .aborted) :
    (release s).1.jobView.Coherent := by
  have hview : (release s).1.jobView = s.jobView.freed := by
    show (State.post _ (State.postAll _ _)).jobView = _
    rw [State.post_jobView, State.postAll_jobView]
    exact s.freeHeads_jobView departed (fun h hh =>
      (departed_of_finished s hs hj h).resolve_left (fun hd => by cases hh.symm.trans hd))
  rw [hview]
  refine hs.freed ?_ (fun h hc => ?_)
  · show s.job.state ≠ .setup
    rcases hj with hj | hj <;> rw [hj] <;> exact nofun
  · have hidle := (hs.sound.seats h).finished hj
    rw [hc] at hidle
    cases hidle

/-! ## START, STOP, ABORT and HEAD PARK -/

/-- A live job becomes RUNNING or STOPPING with a hold count within its limit. -/
theorem JobView.Coherent.entered {v : JobView} (hv : v.Coherent) (hlive : jobLive v.state = true) {j : JobState}
    (hj : j = .running ∨ j = .stopping) {count : Nat} (hcount : count ≤ v.holdLimit) :
    JobView.Coherent { v with state := j, holdCount := count } := by
  have hset : v.state ≠ .setup := fun hs => by
    rw [hs] at hlive
    cases hlive
  have hnext : j ≠ .setup ∧ j ≠ .armed ∧ ¬ (j = .ended ∨ j = .aborted) ∧ jobLive j = true := by
    rcases hj with rfl | rfl <;> decide
  obtain ⟨hsetup, harmed, hfinished, hnlive⟩ := hnext
  refine ⟨⟨fun h => ?_, iff_of_true hnlive (hv.sound.live.mp hlive), hv.sound.feed, fun _ => hcount,
    fun _ => hv.sound.defined hset, hv.sound.named⟩, hv.tracked⟩
  have hx := hv.sound.seats h
  exact ⟨hx.calibrating, hx.tracked, fun hh => absurd hh hsetup, fun _ => hx.outside hset, fun hh => absurd hh harmed,
    fun hh => absurd hh hfinished, hx.demand, hx.emptied⟩

theorem State.actFeedFault_coherent (s : State) (hs : s.jobView.Coherent) : s.actFeedFault.jobView.Coherent := by
  unfold State.actFeedFault
  split
  · exact s.abortIfCutting_coherent _ hs
  · exact hs

theorem start_coherent (s : State) (hs : s.jobView.Coherent) (hj : s.job.state = .armed) :
    (start s).1.jobView.Coherent := by
  unfold start
  split
  · exact hs
  · split
    · exact hs
    · refine State.actFeedFault_coherent _ ?_
      exact hs.entered (show jobLive s.job.state = true by rw [hj]; rfl) (.inl rfl) (Nat.zero_le _)

theorem stop_coherent (s : State) (hs : s.jobView.Coherent) (hj : s.job.state = .running) :
    (stop s).1.jobView.Coherent :=
  hs.entered (show jobLive s.job.state = true by rw [hj]; rfl) (.inr rfl)
    (hs.sound.held (show jobCutting s.job.state = true by rw [hj]; rfl))

theorem headPark_coherent (p : List Byte) (s : State) (hs : s.jobView.Coherent) :
    (headPark p s).1.jobView.Coherent := by
  unfold headPark
  split
  · exact hs
  · split
    · rename_i h _ hactive
      show (s.leaveJob h .parked .parkCommand).jobView.Coherent
      rw [State.leaveJob_jobView]
      exact hs.leave (hs.sound.mayPark hactive)
    · exact hs

/-! ## Resets -/

/-- A part in SETUP with every head OFF and nothing in its queues. -/
theorem JobView.coherent_of_off (record : Option JobRecord) (count : Nat)
    (hnamed : ∀ r, record = some r → ∃ h : Head, (r.heads.get h).isSome = true) :
    JobView.Coherent ⟨.setup, record, fun _ => ⟨.off, false, true, false, 0⟩, false, count⟩ := by
  refine JobView.coherent_of_idle (fun h => ?_) rfl (fun _ => rfl) rfl (fun hne => absurd rfl hne) hnamed
  exact
    { calibrating := iff_of_false nofun nofun
      tracked := nofun
      setup := fun _ => .inl rfl
      outside := fun hne => absurd rfl hne
      armed := nofun
      finished := fun _ => rfl
      demand := fun _ => rfl
      emptied := fun _ => rfl }

theorem State.softReset_coherent (s : State) (hs : s.jobView.Coherent) : s.softReset.jobView.Coherent := by
  have hseat : ∀ h, State.jobSeat h s.softReset = ⟨.off, false, true, false, 0⟩ := fun h => by
    simp [State.jobSeat, State.channelState, State.calibrating, State.softReset, Queue.emptied, Queue.inProgress,
      Channel.softReset, Channel.enter, Calibration.afterReset, CalPhase.setup?, Dbu.afterReset]
  rw [State.jobView, funext hseat]
  exact JobView.coherent_of_off s.job.record 0 hs.sound.named

theorem State.fullReset_coherent (s : State) : s.fullReset.jobView.Coherent := by
  have hseat : ∀ h, State.jobSeat h s.fullReset = ⟨.off, false, true, false, 0⟩ := fun h => by
    simp [State.jobSeat, State.channelState, State.calibrating, State.fullReset, Queue.afterReset, Queue.inProgress,
      Channel.afterReset, Calibration.afterReset, CalPhase.setup?, Dbu.afterReset]
  rw [State.jobView, funext hseat]
  exact JobView.coherent_of_off none 0 nofun

/-! ## Calibration commands -/

theorem State.beginCal_coherent (h : Head) (u : CalSetup) (s : State) (hs : s.jobView.Coherent)
    (hj : s.job.state = .setup) (hoff : s.channelState h = .off) : (s.beginCal h u).jobView.Coherent := by
  have hx := hs.sound.seats h
  have hst : (s.jobView.seat h).state = .off := hoff
  have hset : s.jobView.state = .setup := hj
  have hown : State.jobSeat h (s.beginCal h u) = { s.jobSeat h with state := .calibrating, calibrating := true } := by
    show State.jobSeat h (State.updChannel _ _ _) = _
    rw [State.updChannel_jobSeat, if_pos rfl, State.updCal_jobSeat, if_pos rfl]
    rfl
  have hput := State.jobView_eq_put (s := s) (t := s.beginCal h u) h rfl rfl (fun k hk => by
    show State.jobSeat k (State.updChannel _ _ _) = _
    rw [State.updChannel_jobSeat, if_neg hk, State.updCal_jobSeat, if_neg hk])
  rw [hput, hown]
  refine ⟨hs.sound.put ?_ ?_ ?_, hs.tracked.put nofun⟩
  · exact
      { calibrating := iff_of_true rfl rfl
        tracked := fun ht => by cases hst.symm.trans (hx.tracked ht)
        setup := fun _ => .inr rfl
        outside := fun hne => absurd hset hne
        armed := fun ha => by cases hset.symm.trans ha
        finished := fun _ => rfl
        demand := hx.demand
        emptied := fun _ => hx.emptied (by rw [hst]; rfl) }
  · rw [hst]
    rfl
  · rw [hst]
    exact iff_of_false nofun nofun

theorem State.off_of_calRefusal {p : List Byte} {h : Head} {s : State} (hnone : s.calRefusal p h = none) :
    s.channelState h = .off := by
  by_contra hne
  simp [State.calRefusal, hne] at hnone

theorem calibrate_coherent (p : List Byte) (s : State) (hs : s.jobView.Coherent) (hj : s.job.state = .setup) :
    (calibrate p s).1.jobView.Coherent := by
  unfold calibrate
  split
  · exact hs
  · exact hs
  · split
    · exact hs
    · exact s.beginCal_coherent _ _ hs hj (State.off_of_calRefusal ‹_›)

theorem State.runFit_coherent (h : Head) (u : CalSetup) (low high : Nat) (s : State) (hs : s.jobView.Coherent)
    (hcal : s.calibrating h = true) : (s.runFit h u low high).jobView.Coherent := by
  unfold State.runFit
  split
  · rename_i gain base _
    have hview : (s.updCal h (fun r => { r with proposal := some ⟨gain, base⟩ })).jobView = s.jobView :=
      s.updCal_jobView h _ rfl
    refine State.endCal_coherent h (State.post _ (s.updCal h (fun r => { r with proposal := some ⟨gain, base⟩ }))) ?_ ?_
    · rw [State.post_jobView, hview]
      exact hs
    · simpa [State.calibrating] using hcal
  · exact s.failCal_coherent h _ _ hs hcal

theorem State.measured_coherent (h : Head) (u : CalSetup) (level width : Nat) (s : State) (hs : s.jobView.Coherent)
    (hcal : s.calibrating h = true) : (s.measured h u level width).jobView.Coherent := by
  have hphase : (Calibration.store level width (s.cals.get h)).phase = (s.cals.get h).phase := by
    unfold Calibration.store
    split <;> rfl
  have hview : (s.updCal h (Calibration.store level width)).jobView = s.jobView :=
    s.updCal_jobView h _ (by rw [hphase]; rfl)
  have hstored : (s.updCal h (Calibration.store level width)).jobView.Coherent := hview ▸ hs
  unfold State.measured
  dsimp only
  split
  · refine State.runFit_coherent h u _ _ _ hstored ?_
    simpa [State.calibrating, hphase] using hcal
  · exact hstored
  · exact hstored

theorem calMeasure_coherent (p : List Byte) (s : State) (hs : s.jobView.Coherent) :
    (calMeasure p s).1.jobView.Coherent := by
  unfold calMeasure
  split
  · exact hs
  split
  · exact hs
  split
  case h_4 =>
    rename_i u hphase
    unfold measureLevel
    dsimp only
    split
    · exact hs
    split
    · exact hs
    · exact s.measured_coherent _ u _ _ hs (by rw [State.calibrating, hphase]; rfl)
  all_goals exact hs

theorem calCancel_coherent (p : List Byte) (s : State) (hs : s.jobView.Coherent) :
    (calCancel p s).1.jobView.Coherent := by
  unfold calCancel
  split
  · exact hs
  split
  · exact s.failCal_coherent _ _ _ hs ‹_›
  · exact hs

/-! ## Track parts -/

/-- A change of an active head's queue that keeps whether a track is in progress. -/
theorem State.updQueue_coherent (h : Head) (f : Queue → Queue) (s : State) (hs : s.jobView.Coherent)
    (hactive : s.active h = true)
    (htrack : (f (s.queues.get h)).inProgress.isSome = (s.queues.get h).inProgress.isSome) :
    (s.updQueue h f).jobView.Coherent := by
  have hx := hs.sound.seats h
  have hput := State.jobView_eq_put (s := s) (t := s.updQueue h f) h rfl rfl (fun k hk => by
    rw [State.updQueue_jobSeat, if_neg hk])
  rw [hput, State.updQueue_jobSeat, if_pos rfl, htrack]
  refine ⟨hs.sound.put ⟨hx.calibrating, hx.tracked, hx.setup, hx.outside, hx.armed, hx.finished, hx.demand, ?_⟩ rfl
    Iff.rfl, hs.tracked.put (hs.tracked h)⟩
  intro hidle
  cases (show s.active h = false from hidle).symm.trans hactive

theorem Queue.inProgress_isSome (q : Queue) : q.inProgress.isSome = q.records.head?.any TrackRecord.isCutting := by
  unfold Queue.inProgress
  cases q.records with
  | nil => rfl
  | cons r rest => cases hr : r.isCutting <;> simp [hr]

/-- A newest record that is not CUTTING has no part in whether a track is in progress. -/
theorem any_cutting_concat (init : List TrackRecord) {r : TrackRecord} (hr : r.isCutting = false) :
    (init ++ [r]).head?.any TrackRecord.isCutting = init.head?.any TrackRecord.isCutting := by
  cases init with
  | nil => simp [hr]
  | cons a rest => rfl

theorem TrackRecord.not_cutting_of_filling {r : TrackRecord} (hr : r.isFilling = true) : r.isCutting = false := by
  unfold TrackRecord.isFilling at hr
  unfold TrackRecord.isCutting
  cases hst : r.state <;> simp_all

/-- An accepted part does not change whether a track is in progress. -/
theorem Queue.accept_inProgress (p : List Byte) {q : Queue} (hq : q.Shaped) :
    (q.accept p).inProgress.isSome = q.inProgress.isSome := by
  rw [Queue.inProgress_isSome, Queue.inProgress_isSome]
  unfold Queue.accept
  cases hr : q.filling? with
  | none =>
    rw [Queue.noteCompletion_records]
    exact any_cutting_concat _ (TrackRecord.append_notCutting _ _)
  | some r =>
    obtain ⟨init, hi, hfill⟩ := inOrder_filling_last q.records r hq.order hr
    rw [Queue.noteCompletion_records, Queue.replaceNewest, hi, List.dropLast_concat,
      any_cutting_concat _ (TrackRecord.append_notCutting _ _),
      any_cutting_concat _ (TrackRecord.not_cutting_of_filling hfill)]

/-- A discarded FILLING record was not in progress. -/
theorem Queue.discardFilling_inProgress {q : Queue} (hq : q.Shaped) :
    q.discardFilling.inProgress.isSome = q.inProgress.isSome := by
  have horder := hq.order
  rw [Queue.inProgress_isSome, Queue.inProgress_isSome, Queue.discardFilling]
  match hr : q.records with
  | [] => rfl
  | [a] =>
    cases ha : a.isFilling with
    | true => simp [ha, TrackRecord.not_cutting_of_filling ha]
    | false => simp [ha]
  | a :: b :: rest =>
    rw [hr] at horder
    simp [horder.1.2.1]

/-- A head whose queue holds a record is active. -/
theorem JobSeat.Sound.active_of_records {j : JobState} {entry : Option HeadEntry} {x : JobSeat} (hx : x.Sound j entry)
    (hv : x.vacant = false) : activeState x.state = true := by
  by_contra ha
  cases hv.symm.trans (hx.emptied (Bool.eq_false_iff.mpr ha))

theorem trackDiscard_coherent (p : List Byte) (s : State) (hq : s.QueuesShaped) (hs : s.jobView.Coherent) :
    (trackDiscard p s).1.jobView.Coherent := by
  unfold trackDiscard
  split
  · exact hs
  split
  · exact hs
  · rename_i h _ _ r hr
    have hvacant : (s.queues.get h).records.isEmpty = false := by
      rw [Queue.filling?] at hr
      cases hrec : (s.queues.get h).records with
      | nil => simp [hrec] at hr
      | cons a rest => rfl
    exact s.updQueue_coherent h _ hs ((hs.sound.seats h).active_of_records hvacant)
      (Queue.discardFilling_inProgress (hq h))

theorem State.takesParts_of_accepted {h : Head} {p : List Byte} {s : State} (hnone : s.partReason h p = none) :
    s.takesParts h = true := by
  by_contra hne
  unfold State.partReason at hnone
  rw [Bool.not_eq_true] at hne
  rw [hne] at hnone
  split at hnone <;> simp at hnone

theorem State.trackPart_coherent (b : Byte) (p : List Byte) (s : State) (hq : s.QueuesShaped)
    (hs : s.jobView.Coherent) : (s.trackPart b p).jobView.Coherent := by
  unfold State.trackPart
  split
  · exact hs
  split
  · rename_i h _ _ reason _
    have hview : (s.refusePart h p reason).jobView = s.jobView := by
      rw [State.refusePart, State.post_jobView, State.updCounters_jobView]
      exact s.updQueue_jobView h _ rfl rfl
    exact hview ▸ hs
  · rename_i h _ _ hnone
    have htakes := State.takesParts_of_accepted hnone
    rw [State.takesParts, Bool.and_eq_true] at htakes
    rw [State.acceptPart, State.updCounters_jobView]
    exact s.updQueue_coherent h _ hs htakes.2 (Queue.accept_inProgress p (hq h))

end Sys2Proof.Machine
end

section
/-! SUPPORT. Every row of the table leaves the job and its channels coherent (O47). -/

namespace Sys2Proof.Machine

/-! ## Encoder events -/

theorem State.lineCount_coherent (t : TimingSettings) (s : State) (hs : s.jobView.Coherent) :
    (s.lineCount t).jobView.Coherent :=
  State.countAll_coherent _ { s with ctu := { s.ctu with angle := nextAngle t s.ctu.angle } } hs

theorem State.forwardCount_coherent (time : Nat) (s : State) (hq : s.QueuesShaped) (hs : s.jobView.Coherent) :
    (s.forwardCount time).jobView.Coherent := by
  have hboundary : ∀ (t : TimingSettings) (u : State), u.QueuesShaped → u.jobView.Coherent →
      (u.boundary t time none).jobView.Coherent := fun t u => u.boundary_coherent t time none
  unfold State.forwardCount
  split
  · exact hs
  split
  · exact s.lineCount_coherent _ hs
  · unfold State.countCount
    split
    · exact hboundary _ _ hq hs
    · exact s.lineCount_coherent _ hs
  · unfold State.autoStep
    split
    · exact hboundary _ _ hq hs
    · exact State.lineCount_coherent _ { s with ctu := { s.ctu with autoCount := s.ctu.autoCount + 1 } } hs

theorem State.indexPulse_coherent (time : Nat) (s : State) (hq : s.QueuesShaped) (hs : s.jobView.Coherent) :
    (s.indexPulse time).jobView.Coherent := by
  have hboundary : ∀ (t : TimingSettings) (slip : Option Int) (u : State), u.QueuesShaped → u.jobView.Coherent →
      (u.boundary t time slip).jobView.Coherent := fun t slip u => u.boundary_coherent t time slip
  unfold State.indexPulse
  split
  · exact hs
  split
  · exact hboundary _ _ _ hq hs
  · exact hs
  · exact hboundary _ _ _ hq hs

theorem State.reverseCount_coherent (s : State) (hs : s.jobView.Coherent) : s.reverseCount.jobView.Coherent := by
  unfold State.reverseCount
  split
  · exact hs
  · exact State.failAllCals_coherent _ _ (State.abortIfCutting_coherent _ (State.post _ _) hs)

theorem State.stallExpiry_coherent (s : State) (hs : s.jobView.Coherent) : s.stallExpiry.jobView.Coherent := by
  unfold State.stallExpiry
  split
  · exact hs
  split
  · exact State.failAllCals_coherent _ _ (State.abortIfCutting_coherent _ (State.post _ _) hs)
  · exact hs

theorem State.measurementExpiry_coherent (h : Head) (s : State) (hs : s.jobView.Coherent) :
    (s.measurementExpiry h).jobView.Coherent := by
  unfold State.measurementExpiry
  split
  · rename_i hdue
    rw [Bool.and_eq_true] at hdue
    exact s.failCal_coherent h _ _ hs hdue.2
  · exact hs

theorem State.commitDone_jobView (s : State) : s.commitDone.jobView = s.jobView := by
  unfold State.commitDone
  split <;> rfl

/-! ## Lines and samples -/

theorem State.estopChange_coherent (level : Bool) (s : State) (hs : s.jobView.Coherent) :
    (s.estopChange level).jobView.Coherent := by
  unfold State.estopChange
  split
  · exact hs
  · exact State.failAllCals_coherent _ _ (State.abortJob_coherent _ (s.post _) hs)

/-- A bank change sheds only heads that are CUTTING. -/
theorem State.changeBank_coherent (bank : BitVec 3) (s : State) (hs : s.jobView.Coherent) :
    (s.changeBank bank).jobView.Coherent := by
  have hactive : ∀ h, isShed (s.bankSheds bank) h = true → activeState (s.jobView.seat h).state = true := by
    intro h hh
    have hcut := member_of_isShed hh
    rw [State.cuttingTrack, Bool.and_eq_true, beq_iff_eq] at hcut
    rw [show (s.jobView.seat h).state = .cutting from hcut.1]
    rfl
  by_cases hset : s.jobView.state = .setup
  · have hnone : ∀ h, shedOf (s.bankSheds bank) h = none := fun h => by
      by_contra hne
      exact (hs.sound.member_of_active (hactive h (Option.isSome_iff_ne_none.mpr hne))).1 hset
    have hidle : ∀ (o : ShedOccasion) (budget before : Nat) (u : State), u.jobView.Coherent →
        (u.shedAll o budget before (s.bankSheds bank)).jobView.Coherent := fun o budget before u hu =>
      forHeads_keeps (fun u : State => u.jobView.Coherent) _ (fun h u hu => by
        simp only [hnone]
        exact hu) u hu
    exact hidle _ _ _ (State.post _ _) hs
  · exact State.shedAll_view JobView.Coherent (fun v h hv hm => hv.leave hm) _ _ _ _ (State.post _ _) hs hset
      (fun h hh => (hs.sound.member_of_active (hactive h hh)).2)

/-- A stylus fault raised at a head and acted on. -/
theorem State.raiseThenAct_coherent (h : Head) (fault : StylusFault) (run : Nat) (tag : BitVec 8) (value : Option Nat)
    (s : State) (hs : s.jobView.Coherent) :
    ((s.raiseFault h fault run tag value).actFault h fault (s.faultAction h)).jobView.Coherent := by
  obtain ⟨hpark, hfail⟩ := s.faultAction_acts h hs.sound
  exact State.actFault_coherent h _ _ (s.raiseFault h fault run tag value) hs hpark hfail

theorem State.classified_coherent (h : Head) (p : MonitorParams) (e : HistoryEntry) (value : Nat) (s : State)
    (hs : s.jobView.Coherent) : (s.classified h p e value).jobView.Coherent := by
  unfold State.classified
  dsimp only
  split
  · exact State.raiseThenAct_coherent h _ _ _ _ _ (by split <;> exact hs)
  · split <;> exact hs

theorem State.sample_coherent (h : Head) (value : Nat) (tag : BitVec 8) (s : State) (hs : s.jobView.Coherent) :
    (s.sample h value tag).jobView.Coherent := by
  unfold State.sample
  split
  · exact hs
  split
  · exact hs
  dsimp only
  split
  · exact State.classified_coherent h _ _ value (s.updMonitor h (Monitor.pair tag)) hs
  · exact hs

theorem State.leaveHeld_coherent (s : State) (hs : s.jobView.Coherent) : s.leaveHeld.jobView.Coherent := by
  unfold State.leaveHeld
  split <;> exact hs

/-! ## The feed link -/

/-- Every frame keeps the coherence of the job. -/
theorem takeFrame_coherent (i : Instr) (s t : State) (hq : s.QueuesShaped) (hs : s.jobView.Coherent)
    (h : takeFrame i s = .next t) : t.jobView.Coherent := by
  cases i with
  | identify tag p | statusSnapshot tag p => exact command_coherent_of_view hs rfl h
  | reset tag p => exact command_coherent hs (fun _ => s.softReset_coherent hs) h
  | timingSet tag p => exact command_coherent_of_view hs (timingSet_jobView p s) h
  | tableDiscard tag p => exact command_coherent_of_view hs (tableDiscard_jobView s) h
  | tableCommit tag p => exact command_coherent_of_view hs (tableCommit_jobView p s) h
  | tableErase tag p => exact command_coherent_of_view hs (tableErase_jobView p s) h
  | tableReadStart tag p => exact command_coherent_of_view hs (tableReadStart_jobView p s) h
  | tableReadContinue tag p => exact command_coherent_of_view hs (tableReadContinue_jobView s) h
  | calApply tag p => exact command_coherent_of_view hs (calApply_jobView p s) h
  | stylusWear tag p => exact command_coherent_of_view hs (stylusWear_jobView p s) h
  | noticeMask tag p => exact command_coherent_of_view hs (noticeMask_jobView p s) h
  | noticeSkip tag p => exact command_coherent_of_view hs (noticeSkip_jobView p s) h
  | countersRead tag p => exact command_coherent_of_view hs (countersRead_jobView p s) h
  | countersClear tag p => exact command_coherent_of_view hs (countersClear_jobView p s) h
  | jobDefine tag p =>
    exact command_coherent (c := .jobDefine) hs (fun hc => jobDefine_coherent p s hs (beq_iff_eq.mp hc)) h
  | arm tag p => exact command_coherent (c := .arm) hs (fun hc => arm_coherent s hs (beq_iff_eq.mp hc)) h
  | disarm tag p => exact command_coherent (c := .disarm) hs (fun hc => disarm_coherent s hs (beq_iff_eq.mp hc)) h
  | start tag p => exact command_coherent (c := .start) hs (fun hc => start_coherent s hs (beq_iff_eq.mp hc)) h
  | stop tag p => exact command_coherent (c := .stop) hs (fun hc => stop_coherent s hs (beq_iff_eq.mp hc)) h
  | release tag p =>
    refine command_coherent hs (fun hc => release_coherent s hs ?_) h
    rwa [commandAvailable, Bool.or_eq_true, beq_iff_eq, beq_iff_eq] at hc
  | abort tag p => exact command_coherent hs (fun _ => s.abortJob_coherent _ hs) h
  | headPark tag p => exact command_coherent hs (fun _ => headPark_coherent p s hs) h
  | trackDiscard tag p => exact command_coherent hs (fun _ => trackDiscard_coherent p s hq hs) h
  | calibrate tag p =>
    exact command_coherent (c := .calibrate) hs (fun hc => calibrate_coherent p s hs (beq_iff_eq.mp hc)) h
  | calMeasure tag p => exact command_coherent hs (fun _ => calMeasure_coherent p s hs) h
  | calCancel tag p => exact command_coherent hs (fun _ => calCancel_coherent p s hs) h
  | unknownCommand code tag | shortCommandPayload p | tableDataOpen p | tableData p | kindError kind =>
    exact serve_coherent hs hs h
  | trackPart b p => exact serve_coherent hs (s.trackPart_coherent b p hq hs) h
  | feedByte _ | byteIntervalTimeout | returnFrameSent | commitCompletion | forwardCount _ | reverseCount
  | indexPulse _ | stall | measurementTimeout _ | estop _ | feedFault _ | bankChange _ | monitorSample _ _ _
  | resetNAssert | resetNRelease | powerOn | powerOnRelease | supplyFall =>
    cases h
    exact hs

/-- A byte moves the receive side and nothing of the job, or it ends a frame, whose row then acts. -/
theorem receiveByte_coherent (b : Byte) (s t : State) (hq : s.QueuesShaped) (hs : s.jobView.Coherent)
    (h : receiveByte b s = .next t) : t.jobView.Coherent := by
  have hheader : ∀ stored, (s.headerByte stored b).jobView = s.jobView := fun stored => by
    unfold State.headerByte State.headerDone
    repeat' split
    all_goals rfl
  have hpayload : ∀ kind head length stored, (s.payloadByte kind head length stored b).jobView = s.jobView :=
    fun kind head length stored => by
      unfold State.payloadByte
      split <;> rfl
  unfold receiveByte at h
  split at h
  · split at h <;> cases h <;> exact hs
  · repeat' split at h
    all_goals cases h; exact hs
  · cases h
    exact hheader _ ▸ hs
  · cases h
    exact hpayload _ _ _ _ ▸ hs
  · cases h
    exact hs
  · unfold frameEnd at h
    split at h
    · exact takeFrame_coherent _ (s.receiving .hunt) t hq hs h
    · cases h
      exact hs

theorem State.intervalExpiry_jobView (s : State) : s.intervalExpiry.jobView = s.jobView := by
  unfold State.intervalExpiry
  split <;> rfl

/-! ## The statement -/

/-- Every row keeps the coherence of the job. -/
theorem exec_coherent (c : Instr) (s t : State) (hq : s.QueuesShaped) (hs : s.jobView.Coherent)
    (h : exec c s = .next t) : t.jobView.Coherent := by
  have hframe := takeFrame_coherent c s t hq hs
  cases c with
  | feedByte b =>
    replace h : (if s.inReset then Host.Outcome.next s else receiveByte b s) = .next t := h
    split at h
    · cases h
      exact hs
    · exact receiveByte_coherent b s t hq hs h
  | byteIntervalTimeout => exact serve_coherent hs (s.intervalExpiry_jobView ▸ hs) h
  | returnFrameSent => exact serve_coherent hs hs h
  | commitCompletion => exact serve_coherent hs (s.commitDone_jobView ▸ hs) h
  | forwardCount time => exact serve_coherent hs (s.forwardCount_coherent time hq hs) h
  | reverseCount => exact serve_coherent hs (s.reverseCount_coherent hs) h
  | indexPulse time => exact serve_coherent hs (s.indexPulse_coherent time hq hs) h
  | stall => exact serve_coherent hs (s.stallExpiry_coherent hs) h
  | measurementTimeout head => exact serve_coherent hs (s.measurementExpiry_coherent head hs) h
  | feedFault level =>
    exact serve_coherent (s := { s with lines := { s.lines with feedFault := level } }) hs
      (State.actFeedFault_coherent _ hs) h
  | monitorSample head value tag => exact serve_coherent hs (s.sample_coherent head _ tag hs) h
  | estop level =>
    replace h : execEstop level s = .next t := h
    unfold execEstop at h
    split at h
    · cases h
      exact hs
    split at h
    · cases h
      exact hs
    · exact serve_coherent (s := { s with lines := { s.lines with estopN := level } }) hs
        (State.estopChange_coherent level _ hs) h
  | bankChange bank =>
    replace h : execBankChange bank s = .next t := h
    unfold execBankChange at h
    split at h
    · cases h
      exact hs
    split at h
    · cases h
      exact hs
    · exact serve_coherent (s := { s with lines := { s.lines with ps := bank } }) hs
        (State.changeBank_coherent bank _ hs) h
  | resetNAssert | powerOn | supplyFall =>
    cases h
    exact State.fullReset_coherent _
  | resetNRelease =>
    replace h : execResetNRelease s = .next t := h
    unfold execResetNRelease at h
    split at h
    · cases h
      exact hs
    · cases h
      exact State.leaveHeld_coherent _ hs
  | powerOnRelease =>
    replace h : execPowerOnRelease s = .next t := h
    unfold execPowerOnRelease at h
    split at h
    · cases h
      exact State.leaveHeld_coherent _ hs
    · cases h
      exact hs
  | _ => exact hframe h

/-- Settles O47: the coherence of the job and its seats is kept by every row, with the retirements and the decision of
a boundary taken one after the other. -/
theorem jobAndChannelsStayCoherent : Obligations.JobAndChannelsStayCoherent := by
  intro s t hq hs h
  rw [State.jobCoherent_iff] at hs ⊢
  rcases step_cases s t h with rfl | ⟨c, rest, -, h⟩
  · exact hs
  · exact exec_coherent c { s with pending := rest } t hq hs h

end Sys2Proof.Machine
end

section
/-! DISARM, RELEASE, START and STOP (O41, O42). -/

namespace Sys2Proof.Machine

open Sys2Proof.Claims

/-! ## DISARM and RELEASE -/

/-- What DISARM and RELEASE share is what R100 and R103 say. -/
theorem State.freeHeads_eq (leaves : ChannelState → Bool) (s : State) : s.freeHeads leaves = freed leaves s := rfl

/-- The events of the channels that leave, and JOB_STATE behind them. -/
theorem State.offEvents_concat (leaves : ChannelState → Bool) (s : State) :
    s.offEvents leaves ++ [.jobState s.jobTag .setup none none] = freedEvents leaves s := rfl

theorem disarm_eq (s : State) :
    disarm s = (State.postAll (freedEvents notOff s) (freed notOff s), .ok, []) := by
  rw [disarm, State.disarmJob, ← State.postAll_concat, State.offEvents_concat, State.freeHeads_eq]

theorem release_eq (s : State) :
    release s =
      (State.postAll (freedEvents departed s)
        { freed departed s with monitors := s.monitors.mapIdx (fun _ m => { m with history := [] }) }, .ok, []) := by
  rw [release, State.releaseJob, ← State.postAll_concat, State.offEvents_concat, State.freeHeads_eq]

/-- Settles O41, by the job states in which the two commands are available. -/
theorem disarmAndReleaseFreeHeadsAndTables : Obligations.DisarmAndReleaseFreeHeadsAndTables := by
  intro tag s hr
  have hdisarm : commandAvailable .disarm s.job.state = true ↔ s.job.state = .armed := beq_iff_eq
  have hrelease : commandAvailable .release s.job.state = true ↔ s.job.state = .ended ∨ s.job.state = .aborted := by
    rw [commandAvailable, Bool.or_eq_true, beq_iff_eq, beq_iff_eq]
  refine ⟨fun hj => ?_, fun hj => ?_, fun hj => ?_, fun hj => ?_⟩
  · exact command_refused .disarm tag [] disarm s hr rfl (fun ha => hj (hdisarm.mp ha))
  · exact command_refused .release tag [] release s hr rfl (fun ha => hj (hrelease.mp ha))
  · refine (command_available .disarm tag [] disarm s hr rfl (hdisarm.mpr hj)).trans ?_
    rw [disarm_eq, answerOf_mk]
    rfl
  · refine (command_available .release tag [] release s hr rfl (hrelease.mpr hj)).trans ?_
    rw [release_eq, answerOf_mk]
    rfl

/-! ## START and STOP -/

/-- A FEED_FAULT aborts a job that has just become RUNNING (R44, R101). -/
theorem State.startJob_eq (s : State) :
    s.startJob =
      (fun running : State => if s.lines.feedFault = true then running.abortJob .feedFault else running)
        (State.post (.jobState s.jobTag .running none none)
          { s with job := { s.job with state := .running }, ctu := { s.ctu with holdCount := 0 } }) := by
  have hcut : ∀ u : State, u.job.state = .running → u.abortIfCutting .feedFault = u.abortJob .feedFault :=
    fun u hu => by rw [State.abortIfCutting_eq, if_pos (.inl hu)]
  rw [State.startJob, State.actFeedFault, hcut _ rfl]
  rfl

theorem startRunsOrAbortsOnFeedFault : StartRunsOrAbortsOnFeedFault := by
  intro tag s hr
  have havailable : commandAvailable .start s.job.state = true ↔ s.job.state = .armed := beq_iff_eq
  have hexec : s.job.state = .armed → exec (.start tag []) s = .next (answerOf 0x33 tag (start s)) := fun hj =>
    command_available .start tag [] start s hr rfl (havailable.mpr hj)
  refine ⟨fun hj => ?_, fun hj hestop => ?_, fun hj hestop hspeed => ?_, fun hj hestop hspeed => ?_⟩
  · exact command_refused .start tag [] start s hr rfl (fun ha => hj (havailable.mp ha))
  · simp [hexec hj, start, State.estopAsserted, hestop]
  · simp [hexec hj, start, State.estopAsserted, hestop, hspeed]
  · simp only [hexec hj, start, State.estopAsserted, hestop, hspeed, Bool.not_true, Bool.false_eq_true, if_false,
      State.startJob_eq, answerOf_mk]

theorem stopChangesNoChannel : StopChangesNoChannel := by
  intro tag s hr
  have havailable : commandAvailable .stop s.job.state = true ↔ s.job.state = .running := beq_iff_eq
  refine ⟨fun hj => ?_, fun hj => ?_⟩
  · exact command_refused .stop tag [] stop s hr rfl (fun ha => hj (havailable.mp ha))
  · exact command_available .stop tag [] stop s hr rfl (havailable.mpr hj)

/-- Settles O42, one part for each command. -/
theorem startAndStopMoveJob : Obligations.StartAndStopMoveJob :=
  ⟨startRunsOrAbortsOnFeedFault, stopChangesNoChannel⟩

end Sys2Proof.Machine
end

section
/-! HEAD PARK, the retirement of a track and the departure of a head from its job (O44, O45). -/

namespace Sys2Proof.Machine

open Sys2Proof.Claims

/-! ## HEAD PARK -/

theorem left_job (h : Head) (st : ChannelState) (cause : StopCause) (s : State) : (left h st cause s).job = s.job := rfl

theorem left_channelState (h g : Head) (st : ChannelState) (cause : StopCause) (s : State) :
    (left h st cause s).channelState g = if g = h then st else s.channelState g := by
  show State.channelState g (State.post _ _) = _
  by_cases hg : g = h
  · subst hg
    simp [State.channelState]
  · simp [State.channelState, PerHead.get_set_other _ _ _ _ hg, hg]

theorem left_active (h g : Head) (st : ChannelState) (cause : StopCause) (s : State) (hst : activeState st = false) :
    (left h st cause s).active g = (g != h && s.active g) := by
  rw [State.active, left_channelState]
  by_cases hg : g = h
  · simp [hg, hst]
  · simp [hg, State.active]

/-- The result of a job that ends as a head is parked. -/
theorem jobResult_left_parked (h : Head) (cause : StopCause) (s : State) :
    jobResult (left h .parked cause s) = endedResult h s := by
  have hentry : ∀ g, State.headEntry g (left h .parked cause s) = s.headEntry g := fun _ => rfl
  rw [← State.endResult_eq, State.endResult, endedResult, left_job]
  congr 3
  refine congrArg allHeads.all (funext fun g => ?_)
  rw [hentry, left_channelState]
  by_cases hg : g = h
  · simp [hg]
  · simp [hg, bne_iff_ne.mpr hg]

/-- The departure of a head by HEAD PARK ends a live job when no other channel is active. -/
theorem jobClosed_left_parked (h : Head) (cause : StopCause) (s : State)
    (hlive : s.job.state = .armed ∨ s.job.state = .running ∨ s.job.state = .stopping) :
    jobClosed (left h .parked cause s) =
      if (allHeads.all (fun g => g == h || !s.active g)) = true then
        State.post (.jobState s.jobTag .ended (some (endedResult h s)) none)
          { left h .parked cause s with job := { s.job with
              state := .ended, result := some (endedResult h s), abortCause := none } }
      else left h .parked cause s := by
  have hidle : (∀ g : Head, State.active g (left h .parked cause s) = false) ↔
      allHeads.all (fun g => g == h || !s.active g) = true := by
    rw [all_allHeads]
    refine forall_congr' fun g => ?_
    rw [left_active h g _ _ _ rfl]
    by_cases hg : g = h <;> simp [hg]
  rw [jobClosed, left_job, jobResult_left_parked]
  simp only [hidle, hlive, true_and]
  rfl

theorem field_head (head : Byte) : field [head] 0 1 = head.toNat := by simp [field]

/-- Settles O44, by the checks in their order. -/
theorem headParkRemovesHeadAndMayEndJob : Obligations.HeadParkRemovesHeadAndMayEndJob := by
  intro tag head s hr live
  have havailable : commandAvailable .headPark s.job.state = true ↔ live := jobLive_iff _
  have hexec : live → exec (.headPark tag [head]) s = .next (answerOf 0x37 tag (headPark [head] s)) := fun hlive =>
    command_available .headPark tag [head] _ s hr rfl (havailable.mpr hlive)
  refine ⟨fun hdead => ?_, fun hlive habove => ?_, fun h hlive hh => ⟨fun hidle => ?_, fun hactive => ?_⟩⟩
  · exact command_refused .headPark tag [head] _ s hr rfl (fun ha => hdead (havailable.mp ha))
  · rw [hexec hlive, headPark, field_head, headOf_above _ habove]
    rfl
  · rw [hexec hlive, headPark, field_head, hh, headOf_val]
    simp [hidle]
  · rw [hexec hlive, headPark, field_head, hh, headOf_val]
    simp only [hactive, if_true, answerOf_mk, State.leaveJob_eq h .parked .parkCommand s rfl,
      jobClosed_left_parked h .parkCommand s hlive]
    rfl

/-! ## Departures -/

theorem headLeavingJobMayEndIt : HeadLeavingJobMayEndIt := by
  intro h st cause s hst
  refine s.leaveJob_eq h st cause ?_
  rcases hst with rfl | rfl <;> rfl

theorem stoppingBoundaryHaltsActiveHeads : StoppingBoundaryHaltsActiveHeads := by
  refine fun h s => ⟨fun hj ha => ?_, fun hstay => ?_⟩
  · rw [State.stopHead, hj, ha]
    exact s.leaveJob_eq h .halted .stopCommand rfl
  · rw [State.stopHead, if_neg]
    rw [Bool.and_eq_true, decide_eq_true_eq]
    rintro ⟨hj, ha⟩
    rcases hstay with hne | hidle
    · exact hne hj
    · cases ha.symm.trans hidle

/-! ## Retirement -/

/-- A channel without a track in progress retires nothing. -/
theorem State.retireHead_same (h : Head) (s : State)
    (hnone : s.channelState h ≠ .cutting ∨ (s.queues.get h).inProgress = none) : s.retireHead h = s := by
  unfold State.retireHead
  rcases hnone with hne | hnone
  · rw [if_neg hne]
  · rw [hnone]
    split <;> rfl

/-- A FINAL track makes its channel DONE, and drops FEED_EN unless another channel is CUTTING. -/
theorem State.finishHead_eq (h : Head) (s : State) :
    s.finishHead h =
      jobClosed (State.post (.channelState h .done (some .finalDone) none 0 0 (s.queues.get h).counts)
        { s with
          channels := s.channels.set h (
            { s.channels.get h with state := .done, engage := false, lastStop := some .finalDone })
          ctu := { s.ctu with
            feedEn := s.ctu.feedEn && allHeads.any (fun g => g != h && s.channelState g == .cutting) } }) := by
  have hcut : State.anyCutting (s.updChannel h (Channel.leave .done .finalDone)) =
      allHeads.any (fun g => g != h && s.channelState g == .cutting) := by
    rw [State.anyCutting_eq]
    refine congrArg allHeads.any (funext fun g => ?_)
    by_cases hg : g = h
    · subst hg
      simp [State.channelState, Channel.leave, Channel.enter]
    · simp [State.channelState, PerHead.get_set_other _ _ _ _ hg, hg]
  rw [State.finishHead, State.endJob_eq, State.dropFeed, hcut]
  rfl

theorem signatureMatches_eq (signature : Option (Nat × Nat)) (sums : Nat × Nat) :
    signatureMatches signature sums = (signature == some sums) := by
  cases signature <;> rfl

theorem mismatched_eq (signature : Option (Nat × Nat)) (sums : Nat × Nat) :
    mismatched signature sums = (signature.isSome && !(signature == some sums)) := by
  cases signature <;> rfl

/-- The part with the track of a head retired, before its events (R111): its counters, its queue and its demand. -/
def State.trackFreed (h : Head) (short wrong : Bool) (s : State) : State :=
  { s with
    queues := s.queues.set h (s.queues.get h).retired
    dbu := { s.dbu with demand := s.dbu.demand.set h 0 }
    rpt := { s.rpt with heads := s.rpt.heads.set h (
      { s.rpt.heads.get h with
        shortTracks := if short then (s.rpt.heads.get h).shortTracks + 1 else (s.rpt.heads.get h).shortTracks
        mismatches := if wrong then (s.rpt.heads.get h).mismatches + 1 else (s.rpt.heads.get h).mismatches }) } }

theorem State.trackFreed_eq (h : Head) (short wrong : Bool) (s : State) :
    ((s.updCounters h (fun c =>
      { c with shortTracks := if short then c.shortTracks + 1 else c.shortTracks
               mismatches := if wrong then c.mismatches + 1 else c.mismatches })).updQueue h
        Queue.retired).setDemand h 0 = s.trackFreed h short wrong := rfl

theorem State.trackFreed_queue (h : Head) (short wrong : Bool) (s : State) :
    (s.trackFreed h short wrong).queues.get h = (s.queues.get h).retired := PerHead.get_set_same _ _ _

/-- The retirement of a track: the part after it, and its one or two events (R111). -/
theorem State.retireTrack_eq (h : Head) (r : TrackRecord) (s : State) :
    s.retireTrack h r =
      State.postAll
        (.trackDone h r.number (s.channels.get h).cellIndex r.sums.1 r.sums.2 r.signature.isSome
            (r.signature == some r.sums) (decide ((s.channels.get h).cellIndex < s.jobCells)) r.final
            (s.queues.get h).retired.counts ::
          (match r.signature with
           | some e =>
             if (r.signature.isSome && !(r.signature == some r.sums)) = true then
               [.signatureMismatch h r.number e.1 e.2 r.sums.1 r.sums.2]
             else []
           | none => []))
        (s.trackFreed h (decide ((s.channels.get h).cellIndex < s.jobCells))
          (r.signature.isSome && !(r.signature == some r.sums))) := by
  obtain ⟨number, total, final, signature, samples, state⟩ := r
  simp only [State.retireTrack, signatureMatches_eq, mismatched_eq, State.trackFreed_eq, State.trackFreed_queue]
  cases signature with
  | none => rfl
  | some e =>
    dsimp only
    split <;> rfl

/-- The departure of a DONE channel, once its track is retired. -/
theorem State.finishHead_retireTrack (h : Head) (r : TrackRecord) (s : State) :
    (s.retireTrack h r).finishHead h =
      jobClosed (State.post (.channelState h .done (some .finalDone) none 0 0 (s.queues.get h).retired.counts)
        { s.retireTrack h r with
          channels := s.channels.set h (
            { s.channels.get h with state := .done, engage := false, lastStop := some .finalDone })
          ctu := { s.ctu with
            feedEn := s.ctu.feedEn && allHeads.any (fun g => g != h && s.channelState g == .cutting) } }) := by
  obtain ⟨-, hctu, -, hchannels, -⟩ := s.retireTrack_frame h r
  have hqueue : (s.retireTrack h r).queues.get h = (s.queues.get h).retired := by
    rw [(s.retireTrack_heads h r).1, PerHead.get_set_same]
  rw [State.finishHead_eq, hqueue]
  simp only [State.channelState, hctu, hchannels]

theorem retirementFreesAndReportsTrack : RetirementFreesAndReportsTrack := by
  refine fun h s => ⟨fun r rest mean s1 s2 hst hrec hcut => ?_, s.retireHead_same h⟩
  intro cells short isMatch wrong q freed done
  have hprogress : (s.queues.get h).inProgress = some r := by
    simp [Queue.inProgress, hrec, TrackRecord.isCutting, hcut]
  have hsums : r.sums = (s1, s2) := by simp [TrackRecord.sums, hcut]
  have hqueue : (s.queues.get h).retired = q := by simp [Queue.retired, hrec, q]
  have hdone : s.retireTrack h r = done := by
    have hretired := s.retireTrack_eq h r
    rw [hsums, State.trackFreed, hqueue] at hretired
    exact hretired
  have hretire : s.retireHead h =
      if r.final then done.finishHead h
      else if s.job.state = .stopping then done.leaveJob h .halted .stopCommand else done := by
    simp only [State.retireHead, hst, hprogress, if_true, hdone]
  rw [hretire]
  refine ⟨fun hf hj => ?_, fun hf hj => ?_, fun hf => ?_⟩
  · simp [hf, hj]
  · simp only [hf, hj, Bool.false_eq_true, if_false, if_true]
    exact done.leaveJob_eq h .halted .stopCommand rfl
  · rw [if_pos hf, ← hdone, State.finishHead_retireTrack, hqueue]

/-- Settles O45, one part for each of the three. -/
theorem retirementReportsTrackAndMovesChannel : Obligations.RetirementReportsTrackAndMovesChannel :=
  ⟨retirementFreesAndReportsTrack, headLeavingJobMayEndIt, stoppingBoundaryHaltsActiveHeads⟩

end Sys2Proof.Machine
end

section
/-! STYLUS WEAR, NOTICE MASK, NOTICE SKIP, COUNTERS READ and COUNTERS CLEAR (O59). -/

namespace Sys2Proof.Machine

open Sys2Proof.Claims

theorem stylusWearSetsWearOfIdleHead : StylusWearSetsWearOfIdleHead := by
  intro tag head hi lo s hr
  have hexec : exec (.stylusWear tag [head, hi, lo]) s = .next (answerOf 0x44 tag (stylusWear [head, hi, lo] s)) :=
    command_answers .stylusWear tag [head, hi, lo] _ s hr rfl (fun _ => rfl)
  have hhead : field [head, hi, lo] 0 1 = head.toNat := by simp [field]
  have hwear : field [head, hi, lo] 1 2 = hi.toNat * 256 + lo.toNat := by simp [field]
  rw [hexec, stylusWear, hhead, hwear]
  refine ⟨fun habove => ?_, fun h hh => ⟨fun hbusy => ?_, fun hoff => ?_⟩⟩
  · rw [headOf_above _ habove]
    rfl
  · rw [hh, headOf_val]
    simp [hbusy]
  · rw [hh, headOf_val]
    simp only [hoff, ne_eq, not_true_eq_false, if_false, answerOf_mk]
    rfl

theorem exec_noticeMask (tag : Half) (m : Nat) (s : State) (hr : s.inReset = false) (hm : m < 4294967296) :
    exec (.noticeMask tag (be32 m)) s =
      .next (if 524288 ≤ m then answer 0x50 tag .badParam [1] s
        else answer 0x50 tag .ok (be32 s.rpt.mask.toNat)
          { s with rpt := { s.rpt with mask := BitVec.ofNat 32 m } }) := by
  have hexec : exec (.noticeMask tag (be32 m)) s = .next (answerOf 0x50 tag (noticeMask (be32 m) s)) :=
    command_answers .noticeMask tag (be32 m) _ s hr rfl (fun _ => rfl)
  have hfield : field (be32 m) 0 4 = m := beNat_be32 m hm
  rw [hexec, noticeMask, hfield]
  split
  · rfl
  · rfl

/-- NOTICE SKIP names the first of its two parameters that is out of range. -/
theorem exec_noticeSkip (tag : Half) (n m : Byte) (s : State) (hr : s.inReset = false) :
    exec (.noticeSkip tag [n, m]) s =
      .next (if n.toNat < 1 ∨ 16 < n.toNat then answer 0x51 tag .badParam [1] s
        else if m.toNat = 0 then answer 0x51 tag .badParam [2] s
        else answer 0x51 tag .ok (be8 s.rpt.skipN ++ be8 s.rpt.skipM)
          { s with rpt := { s.rpt with skipN := n.toNat, skipM := m.toNat, skips := PerHead.const ⟨0, 0⟩ } }) := by
  have hexec : exec (.noticeSkip tag [n, m]) s = .next (answerOf 0x51 tag (noticeSkip [n, m] s)) :=
    command_answers .noticeSkip tag [n, m] _ s hr rfl (fun _ => rfl)
  have hn : field [n, m] 0 1 = n.toNat := by simp [field]
  have hm : field [n, m] 1 1 = m.toNat := by simp [field]
  have hnok : within 1 16 n.toNat = true ↔ ¬ (n.toNat < 1 ∨ 16 < n.toNat) := by
    simp only [within, Bool.and_eq_true, decide_eq_true_eq]
    omega
  have hmok : within 1 255 m.toNat = true ↔ ¬ m.toNat = 0 := by
    have := m.isLt
    simp only [within, Bool.and_eq_true, decide_eq_true_eq]
    omega
  rw [hexec, noticeSkip, hn, hm]
  by_cases hbadn : n.toNat < 1 ∨ 16 < n.toNat
  · rw [if_pos hbadn, firstFailure, if_neg (fun ht => hnok.mp ht hbadn)]
    rfl
  rw [if_neg hbadn, firstFailure, if_pos (hnok.mpr hbadn)]
  by_cases hbadm : m.toNat = 0
  · rw [if_pos hbadm, firstFailure, if_neg (fun ht => hmok.mp ht hbadm)]
    rfl
  · rw [if_neg hbadm, firstFailure, if_pos (hmok.mpr hbadm)]
    rfl

theorem noticeSettingsAreReplacedWhole : NoticeSettingsAreReplacedWhole := by
  refine fun tag s hr => ⟨fun m hm => ?_, fun n m => ?_⟩
  · rw [exec_noticeMask tag m s hr hm]
    exact ⟨fun hbad => by rw [if_pos hbad], fun hgood => by rw [if_neg (Nat.not_le.mpr hgood)]⟩
  · rw [exec_noticeSkip tag n m s hr]
    refine ⟨fun hbad => by rw [if_pos hbad], fun hlo hhi hm => ?_, fun hlo hhi hm => ?_⟩
    · rw [if_neg (by omega), if_pos hm]
    · rw [if_neg (by omega), if_neg (by omega)]

theorem be8_val_of_head {head : Byte} {h : Head} (hh : head.toNat = h.val) : be8 h.val = [head] := by
  rw [be8, ← hh, BitVec.ofNat_toNat, BitVec.setWidth_eq]

theorem countersAreReadAndCleared : CountersAreReadAndCleared := by
  intro tag head s hr
  have hread : exec (.countersRead tag [head]) s = .next (answerOf 0x52 tag (countersRead [head] s)) :=
    command_answers .countersRead tag [head] _ s hr rfl (fun _ => rfl)
  have hclear : exec (.countersClear tag [head]) s = .next (answerOf 0x53 tag (countersClear [head] s)) :=
    command_answers .countersClear tag [head] _ s hr rfl (fun _ => rfl)
  rw [hread, hclear, countersRead, countersClear, field_head]
  refine ⟨fun habove => ?_, fun h hh => ?_⟩
  · rw [headOf_above _ habove]
    exact ⟨rfl, rfl⟩
  · intro c n five
    rw [hh, headOf_val]
    refine ⟨?_, rfl⟩
    simp only [answerOf_mk, be8_val_of_head hh]
    refine congrArg _ (congrArg (fun data => answer 0x52 tag .ok data s) ?_)
    simp only [cellCounterBytes, List.flatMap_cons, List.flatMap_nil, List.append_nil, List.append_assoc]
    rfl

/-- Settles O59, one part for each of the three. -/
theorem wearNoticeSettingsAndCounters : Obligations.WearNoticeSettingsAndCounters :=
  ⟨stylusWearSetsWearOfIdleHead, noticeSettingsAreReplacedWhole, countersAreReadAndCleared⟩

end Sys2Proof.Machine
end

section
/-! JOB DEFINE (O38). -/

namespace Sys2Proof.Machine

/-! ## Checks in order -/

theorem within_eq_false (lo hi n : Nat) : within lo hi n = false ↔ n < lo ∨ hi < n := by
  simp only [within, Bool.and_eq_false_iff, decide_eq_false_iff_not, Nat.not_le]

/-- The failing checks of a list, one after the other. -/
theorem failing_mem_cons (n position : Nat) (ok : Bool) (rest : List (Bool × Nat)) :
    (false, n) ∈ (ok, position) :: rest ↔ (n = position ∧ ok = false) ∨ (false, n) ∈ rest := by
  rw [List.mem_cons, Prod.mk.injEq, and_comm, eq_comm (a := false)]

/-- Of checks in the order of their positions, the first that fails is the failing one with the least position. -/
theorem firstFailure_of_least {checks : List (Bool × Nat)} {n : Nat}
    (hordered : (checks.map Prod.snd).Pairwise (· < ·)) (hn : (false, n) ∈ checks)
    (hleast : ∀ m, m < n → (false, m) ∉ checks) : firstFailure checks = some n := by
  have hone : ∀ c ∈ checks, ∀ c' ∈ checks, c.2 = c'.2 → c = c' :=
    List.inj_on_of_nodup_map (hordered.imp Nat.ne_of_lt)
  refine firstFailure_at_first_bad (bad := fun m => (false, m) ∈ checks) (fun c hc => ?_) hordered
    (List.mem_map_of_mem hn) hn hleast
  obtain ⟨ok, position⟩ := c
  cases ok with
  | true => exact iff_of_true rfl (fun hfails => by cases hone _ hc _ hfails rfl)
  | false => exact iff_of_false nofun (not_not.mpr hc)

end Sys2Proof.Machine

namespace Sys2Proof.Claims

open Sys2Proof.Machine

/-! ## The fields -/

section Fields

variable {d : Define}

theorem Define.head_fields (hd : d.Fits) (h : Head) :
    field d.bytes (entryOffset h) 1 = d.gradation.get h ∧ field d.bytes (entryOffset h + 1) 1 = d.runout.get h ∧
      field d.bytes (entryOffset h + 2) 1 = d.priority.get h ∧
      field d.bytes (entryOffset h + 3) 1 = d.policy.get h := by
  have hfields : ∀ h : Head,
      field d.bytes (entryOffset h) 1 = beNat (be8 (d.gradation.get h)) ∧
        field d.bytes (entryOffset h + 1) 1 = beNat (be8 (d.runout.get h)) ∧
        field d.bytes (entryOffset h + 2) 1 = beNat (be8 (d.priority.get h)) ∧
        field d.bytes (entryOffset h + 3) 1 = beNat (be8 (d.policy.get h)) :=
    forall_head _ ⟨rfl, rfl, rfl, rfl⟩ ⟨rfl, rfl, rfl, rfl⟩ ⟨rfl, rfl, rfl, rfl⟩ ⟨rfl, rfl, rfl, rfl⟩
  obtain ⟨hgradation, hrunout, hpriority, hpolicy⟩ := hd.entries h
  obtain ⟨hg, hr, hp, hpol⟩ := hfields h
  exact ⟨hg.trans (beNat_be8 _ hgradation), hr.trans (beNat_be8 _ hrunout), hp.trans (beNat_be8 _ hpriority),
    hpol.trans (beNat_be8 _ hpolicy)⟩

theorem Define.inHeadSet_bytes (d : Define) (h : Head) : inHeadSet d.bytes h = d.has h := by
  have hlt : h.val < 8 := by omega
  show (BitVec.ofNat 8 d.heads).getLsbD h.val = d.heads.testBit h.val
  rw [BitVec.getLsbD_ofNat, decide_eq_true hlt, Bool.true_and]

/-- The record is read back from the parameter bytes. -/
theorem Define.definedRecord_bytes (hd : d.Fits) : definedRecord d.bytes = d.record := by
  have hentry : definedEntry d.bytes = fun h =>
      if d.has h then
        some
          { gradation := d.gradation.get h
            runout := if d.runout.get h = 255 then none else some (d.runout.get h)
            priority := d.priority.get h
            policy := if d.policy.get h = 0 then .abortJob else .parkHead }
      else none := by
    funext h
    obtain ⟨hgradation, hrunout, hpriority, hpolicy⟩ := Define.head_fields hd h
    rw [definedEntry, d.inHeadSet_bytes, hgradation, hrunout, hpriority, hpolicy]
  obtain ⟨-, hscreen, hhold, hn, hm⟩ := hd.bytes
  have htag : field d.bytes 0 2 = d.tag := beNat_be16 _ hd.halves.1
  have hscreen : field d.bytes 3 1 = d.screen := beNat_be8 _ hscreen
  have hstart : field d.bytes 20 2 = d.start := beNat_be16 _ hd.halves.2
  have hhold : field d.bytes 22 1 = d.hold := beNat_be8 _ hhold
  have hn : field d.bytes 23 1 = d.n := beNat_be8 _ hn
  have hm : field d.bytes 24 1 = d.m := beNat_be8 _ hm
  rw [definedRecord, hentry, htag, hscreen, hstart, hhold, hn, hm]
  rfl

/-! ## The checks -/

/-- The checks of a head's entry (R96). -/
def Define.headChecks (d : Define) (h : Head) : List (Bool × Nat) :=
  if d.has h then
    [(within 0 36 (d.gradation.get h), 4 + 4 * h.val),
     (within 0 36 (d.runout.get h) || d.runout.get h == 255, 5 + 4 * h.val),
     (within 0 3 (d.priority.get h), 6 + 4 * h.val), (within 0 1 (d.policy.get h), 7 + 4 * h.val)]
  else []

/-- The checks of a JOB DEFINE in their order (R96). -/
def Define.checks (d : Define) : List (Bool × Nat) :=
  [(d.tag != 0, 1), (within 1 15 d.heads, 2), (within 0 36 d.screen, 3)] ++ allHeads.flatMap d.headChecks ++
    [(within 1 255 d.hold, 21), (within 1 16 d.n, 22), (within 1 255 d.m, 23)]

theorem Define.defineFailure_bytes (hd : d.Fits) : defineFailure d.bytes = firstFailure d.checks := by
  have hhead : Machine.headChecks d.bytes = d.headChecks := by
    funext h
    obtain ⟨hgradation, hrunout, hpriority, hpolicy⟩ := Define.head_fields hd h
    rw [Machine.headChecks, d.inHeadSet_bytes, hgradation, hrunout, hpriority, hpolicy]
    rfl
  obtain ⟨hheads, hscreen, hhold, hn, hm⟩ := hd.bytes
  have htag : field d.bytes 0 2 = d.tag := beNat_be16 _ hd.halves.1
  have hheads : field d.bytes 2 1 = d.heads := beNat_be8 _ hheads
  have hscreen : field d.bytes 3 1 = d.screen := beNat_be8 _ hscreen
  have hhold : field d.bytes 22 1 = d.hold := beNat_be8 _ hhold
  have hn : field d.bytes 23 1 = d.n := beNat_be8 _ hn
  have hm : field d.bytes 24 1 = d.m := beNat_be8 _ hm
  rw [defineFailure, hhead, htag, hheads, hscreen, hhold, hn, hm]
  rfl

theorem Define.headChecks_positions (d : Define) (h : Head) :
    ((d.headChecks h).map Prod.snd).Sublist [4 + 4 * h.val, 5 + 4 * h.val, 6 + 4 * h.val, 7 + 4 * h.val] := by
  unfold Define.headChecks
  split
  · exact List.Sublist.refl _
  · exact List.nil_sublist _

/-- The checks stand in the order of their positions. -/
theorem Define.checks_ordered (d : Define) : (d.checks.map Prod.snd).Pairwise (· < ·) := by
  have hheads := d.headChecks_positions
  have hsub : (d.checks.map Prod.snd).Sublist
      ([1, 2, 3] ++ ([4, 5, 6, 7] ++ ([8, 9, 10, 11] ++ ([12, 13, 14, 15] ++ [16, 17, 18, 19]))) ++ [21, 22, 23]) := by
    have hmap : d.checks.map Prod.snd =
        [1, 2, 3] ++ ((d.headChecks 0).map Prod.snd ++ ((d.headChecks 1).map Prod.snd ++
          ((d.headChecks 2).map Prod.snd ++ (d.headChecks 3).map Prod.snd))) ++ [21, 22, 23] := by
      simp [Define.checks, allHeads]
    rw [hmap]
    exact ((List.Sublist.refl _).append ((hheads 0).append ((hheads 1).append ((hheads 2).append (hheads 3))))).append
      (List.Sublist.refl _)
  exact List.Pairwise.sublist hsub (by decide)

/-- A head's field that fails its check (R96). -/
theorem Define.mem_headChecks (d : Define) (h : Head) (n : Nat) :
    (false, n) ∈ d.headChecks h ↔ d.has h = true ∧
      ((n = 4 + 4 * h.val ∧ 36 < d.gradation.get h) ∨
       (n = 5 + 4 * h.val ∧ 36 < d.runout.get h ∧ d.runout.get h ≠ 255) ∨
       (n = 6 + 4 * h.val ∧ 3 < d.priority.get h) ∨ (n = 7 + 4 * h.val ∧ 1 < d.policy.get h)) := by
  unfold Define.headChecks
  cases d.has h with
  | false => simp
  | true =>
    simp only [if_true, failing_mem_cons, within_eq_false, Bool.or_eq_false_iff, beq_eq_false_iff_ne, Nat.not_lt_zero,
      false_or, true_and, List.not_mem_nil, or_false]

/-- The positions at which a field fails its check are those of the checks that fail. -/
theorem Define.bad_iff (hd : d.Fits) (n : Nat) : d.bad n ↔ (false, n) ∈ d.checks := by
  obtain ⟨-, -, hhold, -, hm⟩ := hd.bytes
  have hheads : (false, n) ∈ allHeads.flatMap d.headChecks ↔ ∃ h : Head, (false, n) ∈ d.headChecks h := by
    rw [List.mem_flatMap]
    exact ⟨fun ⟨h, _, hn⟩ => ⟨h, hn⟩, fun ⟨h, hn⟩ => ⟨h, mem_allHeads h, hn⟩⟩
  have hsettings : (false, n) ∈ [(within 1 255 d.hold, 21), (within 1 16 d.n, 22), (within 1 255 d.m, 23)] ↔
      (n = 21 ∧ d.hold = 0) ∨ (n = 22 ∧ (d.n < 1 ∨ 16 < d.n)) ∨ (n = 23 ∧ d.m = 0) := by
    simp only [failing_mem_cons, within_eq_false, List.not_mem_nil, or_false]
    omega
  have hfirst : (false, n) ∈ [(d.tag != 0, 1), (within 1 15 d.heads, 2), (within 0 36 d.screen, 3)] ↔
      (n = 1 ∧ d.tag = 0) ∨ (n = 2 ∧ (d.heads = 0 ∨ 15 < d.heads)) ∨ (n = 3 ∧ 36 < d.screen) := by
    simp only [failing_mem_cons, within_eq_false, bne_eq_false_iff_eq, List.not_mem_nil, or_false]
    omega
  rw [Define.checks, List.mem_append, List.mem_append, hfirst, hheads, hsettings]
  simp only [Define.mem_headChecks, Define.bad, or_assoc]

end Fields

end Sys2Proof.Claims

namespace Sys2Proof.Machine

open Sys2Proof.Claims

/-- Settles O38, by the checks in their order. -/
theorem jobDefineReplacesRecord : Obligations.JobDefineReplacesRecord := by
  intro tag d s hr hd
  have havailable : commandAvailable .jobDefine s.job.state = true ↔ s.job.state = .setup := beq_iff_eq
  have hexec : s.job.state = .setup →
      exec (.jobDefine tag d.bytes) s = .next (answerOf 0x30 tag (jobDefine d.bytes s)) := fun hj =>
    command_available .jobDefine tag d.bytes _ s hr rfl (havailable.mpr hj)
  refine ⟨fun hj => ?_, fun hj n hbad hfirst => ?_, fun hj hgood => ?_⟩
  · exact command_refused .jobDefine tag d.bytes _ s hr rfl (fun ha => hj (havailable.mp ha))
  · have hfails : firstFailure d.checks = some n :=
      firstFailure_of_least d.checks_ordered ((Define.bad_iff hd n).mp hbad)
        (fun m hm hmem => hfirst m hm ((Define.bad_iff hd m).mpr hmem))
    rw [hexec hj, jobDefine, Define.defineFailure_bytes hd, hfails]
    rfl
  · have hholds : firstFailure d.checks = none := (firstFailure_eq_none _).mpr fun c hc => by
      obtain ⟨ok, position⟩ := c
      cases ok with
      | true => rfl
      | false => exact absurd ((Define.bad_iff hd position).mpr hc) (hgood position)
    rw [hexec hj, jobDefine, Define.defineFailure_bytes hd, hholds, Define.definedRecord_bytes hd]
    rfl

end Sys2Proof.Machine
end

section
/-! SUPPORT. The steps of ARM one by one: the tables, the head calibrations, the staging owner and the budget (O39,
O40). -/

namespace Sys2Proof.Machine

open Sys2Proof.Claims

/-! ## The slots of a job -/

/-- The tables of step 6 are those of R98 in its order. -/
theorem JobRecord.tables_eq (r : JobRecord) : r.tables = namedTables r := by
  have hfilter : ∀ heads : List Head,
      (heads.filter (fun h => (r.heads.get h).isSome)).flatMap r.headTables = heads.flatMap r.headTables := by
    intro heads
    induction heads with
    | nil => rfl
    | cons h rest ih =>
      cases hh : r.heads.get h <;> simp [hh, ih, JobRecord.headTables]
  rw [JobRecord.tables, JobRecord.members, hfilter, namedTables]
  refine congrArg _ (congrArg (List.flatMap · allHeads) (funext fun h => ?_))
  unfold JobRecord.headTables
  cases r.heads.get h with
  | none => rfl
  | some e =>
    obtain ⟨gradation, runout, priority, policy⟩ := e
    cases runout <;> rfl

theorem JobRecord.fixedSlots_eq (r : JobRecord) : r.fixedSlots = namedFixed r := rfl

theorem JobRecord.slots_eq (r : JobRecord) : r.slots = (namedTables r).map Prod.fst ++ namedFixed r := by
  rw [JobRecord.slots, r.tables_eq, r.fixedSlots_eq]

/-! ## Steps 6, 8 and 9 of R98 -/

theorem unreadable_of_usable {s : State} {i : Nat} (h : usable s i) : s.store.unreadable i = none :=
  (s.store.unreadable_eq_none i).mpr h

/-- Tables that are as they must be are passed over. -/
theorem Store.tableFault_append {s : State} {before : List (Nat × SlotKind)}
    (hbefore : ∀ x ∈ before, slotKind x.1 = x.2 ∧ usable s x.1) (rest : List (Nat × SlotKind)) :
    s.store.tableFault (before ++ rest) = s.store.tableFault rest := by
  induction before with
  | nil => rfl
  | cons x before ih =>
    obtain ⟨⟨hkind, huse⟩, htail⟩ := List.forall_mem_cons.mp hbefore
    rw [List.cons_append, Store.tableFault, if_neg (not_not.mpr hkind), unreadable_of_usable huse]
    exact ih htail

theorem Store.tableFault_of_usable {s : State} {tables : List (Nat × SlotKind)}
    (h : ∀ x ∈ tables, slotKind x.1 = x.2 ∧ usable s x.1) : s.store.tableFault tables = none := by
  rw [← List.append_nil tables, Store.tableFault_append h]
  rfl

/-- Slots that are readable are passed over. -/
theorem Store.fixedFault_append {s : State} {before : List Nat} (hbefore : ∀ i ∈ before, usable s i)
    (rest : List Nat) : s.store.fixedFault (before ++ rest) = s.store.fixedFault rest := by
  induction before with
  | nil => rfl
  | cons i before ih =>
    obtain ⟨huse, htail⟩ := List.forall_mem_cons.mp hbefore
    rw [List.cons_append, Store.fixedFault, unreadable_of_usable huse]
    exact ih htail

theorem Store.fixedFault_of_usable {s : State} {slots : List Nat} (h : ∀ i ∈ slots, usable s i) :
    s.store.fixedFault slots = none := by
  rw [← List.append_nil slots, Store.fixedFault_append h]
  rfl

theorem Store.stagedSlot_of_mem {t : Store} {i : Nat} {slots : List Nat} (ho : t.owner = some i) (hi : i ∈ slots) :
    t.stagedSlot slots = some i := by
  simp [Store.stagedSlot, ho, hi]

theorem Store.stagedSlot_of_not_mem {t : Store} {slots : List Nat} (h : ∀ i, t.owner = some i → i ∉ slots) :
    t.stagedSlot slots = none := by
  unfold Store.stagedSlot
  split
  · rename_i i ho
    simp [h i ho]
  · rfl

/-- Binding, slot by slot (R21). -/
theorem Store.bind_eq (slots : List Nat) (t : Store) :
    t.bind slots =
      { t with slots := t.slots.mapIdx (fun i v => if i ∈ slots then { v with state := .bound } else v) } := by
  have hslots : (t.bind slots).slots =
      t.slots.mapIdx (fun i v => if i ∈ slots then { v with state := .bound } else v) := by
    refine Vector.ext fun i hi => ?_
    have hslot : ∀ u : Store, u.slots[i] = u.slot i := fun u => by simp [Store.slot, hi]
    rw [hslot, Store.slot_bind, Vector.getElem_mapIdx, hslot]
    simp only [hi, and_true]
  have hparts : t.bind slots = { t with slots := (t.bind slots).slots } := by
    rw [← t.bind_owner slots, ← t.bind_image slots, ← t.bind_commit slots, ← t.bind_cursor slots]
  rw [hparts, hslots]

/-! ## Step 10 of R98 -/

theorem insertHead_perm (priority : Head → Nat) (a : Head) (heads : List Head) :
    (insertHead priority a heads).Perm (a :: heads) := by
  induction heads with
  | nil => exact List.Perm.refl _
  | cons b rest ih =>
    rw [insertHead]
    split
    · exact List.Perm.refl _
    · exact (ih.cons b).trans (List.Perm.swap a b rest)

theorem insertHeads_perm (priority : Head → Nat) (heads : List Head) :
    (heads.foldr (insertHead priority) []).Perm heads := by
  induction heads with
  | nil => exact List.Perm.refl _
  | cons a rest ih => exact (insertHead_perm priority a _).trans (ih.cons a)

/-- A head of priority 0 below the heads of a list goes behind them all. -/
theorem insertHead_of_vital {priority : Head → Nat} {a : Head} (ha : priority a = 0) {heads : List Head}
    (hbelow : ∀ b ∈ heads, a < b) : insertHead priority a heads = heads ++ [a] := by
  induction heads with
  | nil => rfl
  | cons b rest ih =>
    obtain ⟨hab, hrest⟩ := List.forall_mem_cons.mp hbelow
    have hnot : removedBefore priority a b = false := by
      have hle : ¬ b.val < a.val := Nat.not_lt.mpr (Nat.le_of_lt hab)
      simp [removedBefore, ha, hle]
    rw [insertHead, hnot, if_neg Bool.false_ne_true, ih hrest, List.cons_append]

/-- A head of another priority goes before the heads of priority 0. -/
theorem insertHead_of_not_vital {priority : Head → Nat} {a : Head} (ha : priority a ≠ 0) {vital : List Head}
    (hvital : ∀ b ∈ vital, priority b = 0) {others : List Head} (hothers : ∀ b ∈ others, priority b ≠ 0) :
    ∃ others', insertHead priority a (others ++ vital) = others' ++ vital ∧ ∀ b ∈ others', priority b ≠ 0 := by
  induction others with
  | nil =>
    refine ⟨[a], ?_, fun b hb => by rwa [List.mem_singleton.mp hb]⟩
    cases vital with
    | nil => rfl
    | cons b rest =>
      have hbefore : removedBefore priority a b = true := by
        simp [removedBefore, hvital b List.mem_cons_self, Nat.pos_of_ne_zero ha]
      rw [List.nil_append, insertHead, hbefore, if_pos rfl]
      rfl
  | cons c others ih =>
    obtain ⟨hc, hrest⟩ := List.forall_mem_cons.mp hothers
    rw [List.cons_append, insertHead]
    split
    · exact ⟨a :: c :: others, rfl, List.forall_mem_cons.mpr ⟨ha, hothers⟩⟩
    · obtain ⟨others', heq, hne⟩ := ih hrest
      exact ⟨c :: others', by rw [heq]; rfl, List.forall_mem_cons.mpr ⟨hc, hne⟩⟩

/-- In the order of removal the heads of priority 0 come last, the highest-numbered of them first (R161). -/
theorem removalOrder_vital_last (priority : Head → Nat) (members : Head → Bool) :
    ∃ others, removalOrder priority members =
        others ++ ((allHeads.filter members).filter (fun h => priority h == 0)).reverse ∧
      ∀ b ∈ others, priority b ≠ 0 := by
  have hfold : ∀ heads : List Head, heads.Pairwise (· < ·) →
      ∃ others, heads.foldr (insertHead priority) [] = others ++ (heads.filter (fun h => priority h == 0)).reverse ∧
        ∀ b ∈ others, priority b ≠ 0 := by
    intro heads hsorted
    induction heads with
    | nil => exact ⟨[], rfl, nofun⟩
    | cons a rest ih =>
      rw [List.pairwise_cons] at hsorted
      obtain ⟨others, hrest, hothers⟩ := ih hsorted.2
      rw [List.foldr_cons]
      by_cases ha : priority a = 0
      · refine ⟨others, ?_, hothers⟩
        rw [insertHead_of_vital ha (fun b hb => hsorted.1 b ((insertHeads_perm priority rest).mem_iff.mp hb)), hrest,
          List.filter_cons_of_pos (by simp [ha]), List.reverse_cons, List.append_assoc]
      · have hvital : ∀ b ∈ (rest.filter (fun h => priority h == 0)).reverse, priority b = 0 := fun b hb => by
          simpa using (List.mem_filter.mp (List.mem_reverse.mp hb)).2
        rw [hrest, List.filter_cons_of_neg (by simp [ha])]
        exact insertHead_of_not_vital ha hvital hothers
  exact hfold _ (List.Pairwise.filter _ (by decide))

/-- Which head of the last of an order a shedding removes first: none when their demands fit. -/
theorem shedWalk_first_vital {demand : Head → Nat} {budget : Nat} {vital : Head → Bool} {lasts : List Head}
    (hlasts : ∀ b ∈ lasts, vital b = true) {others : List Head} (hothers : ∀ b ∈ others, vital b = false)
    (sum rank : Nat) (hsum : sum = sumDemands demand (others ++ lasts)) :
    ((shedWalk demand budget sum rank (others ++ lasts)).find? (fun x => vital x.head)).map Shed.head =
      if sumDemands demand lasts ≤ budget then none else lasts.head? := by
  induction others generalizing sum rank with
  | nil =>
    cases lasts with
    | nil => simp [shedWalk]
    | cons b rest =>
      rw [List.nil_append] at hsum ⊢
      rw [shedWalk, hsum]
      split
      · rfl
      · simp [hlasts b List.mem_cons_self]
  | cons a others ih =>
    obtain ⟨ha, hrest⟩ := List.forall_mem_cons.mp hothers
    have hcons : sum = demand a + sumDemands demand (others ++ lasts) := by
      rw [hsum, sumDemands, List.cons_append, List.map_cons, List.sum_cons, sumDemands]
    have hle : sumDemands demand lasts ≤ sumDemands demand (others ++ lasts) := by
      simp only [sumDemands, List.map_append, List.sum_append]
      omega
    rw [List.cons_append, shedWalk]
    by_cases hfits : sum ≤ budget
    · rw [if_pos hfits, if_pos (by omega)]
      rfl
    · rw [if_neg hfits, List.find?_cons_of_neg (by simp [ha])]
      exact ih hrest _ _ (by omega)

/-- The first head of priority 0 that the shedding order removes: none when the demands of the heads of priority 0 fit,
and otherwise the highest-numbered of them. -/
theorem shedOrder_first_vital (priority demand : Head → Nat) (members : Head → Bool) (budget : Nat) :
    ((shedOrder priority demand members budget).find? (fun x => priority x.head == 0)).map Shed.head =
      if sumDemands demand ((allHeads.filter members).filter (fun h => priority h == 0)) ≤ budget then none
      else ((allHeads.filter members).filter (fun h => priority h == 0)).reverse.head? := by
  obtain ⟨others, horder, hothers⟩ := removalOrder_vital_last priority members
  have hsum : sumDemands demand (allHeads.filter members) = sumDemands demand (removalOrder priority members) :=
    ((insertHeads_perm priority (allHeads.filter members)).map demand).sum_eq.symm
  have hreverse : ∀ heads : List Head, sumDemands demand heads.reverse = sumDemands demand heads := fun heads =>
    (heads.reverse_perm.map demand).sum_eq
  rw [shedOrder, hsum, horder]
  refine (shedWalk_first_vital (vital := fun h => priority h == 0) (fun b hb => ?_) (fun b hb => ?_) _ _ rfl).trans ?_
  · exact (List.mem_filter.mp (List.mem_reverse.mp hb)).2
  · simpa using hothers b hb
  · rw [hreverse]

/-- A head of the set of a record with priority 0 there. -/
def vitalIn (r : JobRecord) (h : Head) : Bool :=
  match r.heads.get h with
  | some e => e.priority == 0
  | none => false

theorem vitalIn_iff (r : JobRecord) (h : Head) :
    vitalIn r h = true ↔ ∃ e, r.heads.get h = some e ∧ e.priority = 0 := by
  unfold vitalIn
  cases r.heads.get h <;> simp

/-- Step 10 of R98 names the highest-numbered head of priority 0, when the demands of those heads exceed the budget. -/
theorem State.firstVital_armSheds {r : JobRecord} {s : State} (hr : s.job.record = some r) :
    s.firstVital (s.armSheds r) =
      if vitalDemand r s ≤ s.budgetOf s.dbu.bank then none else (allHeads.filter (vitalIn r)).reverse.head? := by
  have hfilter : (allHeads.filter (fun h => (r.heads.get h).isSome)).filter (fun h => s.priority h == 0) =
      allHeads.filter (vitalIn r) := by
    rw [List.filter_filter]
    refine List.filter_congr fun h _ => ?_
    rw [State.priority, State.headEntry, hr, vitalIn]
    cases hh : r.heads.get h <;> simp [hh]
  have hdemand : vitalDemand r s = sumDemands (fun h => worstDemand (s.headcal h)) (allHeads.filter (vitalIn r)) := rfl
  rw [hdemand, ← hfilter]
  exact shedOrder_first_vital (fun h => s.priority h) _ _ _

/-- The highest-numbered head of priority 0. -/
theorem vital_head?_of_highest {r : JobRecord} {h : Head} (hh : ∃ e, r.heads.get h = some e ∧ e.priority = 0)
    (habove : ∀ g : Head, h < g → ∀ e, r.heads.get g = some e → e.priority ≠ 0) :
    (allHeads.filter (vitalIn r)).reverse.head? = some h := by
  have hsorted : (allHeads.filter (vitalIn r)).reverse.Pairwise (· > ·) :=
    List.pairwise_reverse.mpr (List.Pairwise.filter _ (by decide))
  have hmem : ∀ g, g ∈ (allHeads.filter (vitalIn r)).reverse ↔ vitalIn r g = true := fun g => by
    rw [List.mem_reverse, List.mem_filter]
    exact and_iff_right (mem_allHeads g)
  have hh : h ∈ (allHeads.filter (vitalIn r)).reverse := (hmem h).mpr ((vitalIn_iff r h).mpr hh)
  cases hlist : (allHeads.filter (vitalIn r)).reverse with
  | nil => simp [hlist] at hh
  | cons b rest =>
    rw [hlist] at hh hsorted hmem
    rcases List.mem_cons.mp hh with rfl | hrest
    · rfl
    · obtain ⟨e, he, hzero⟩ := (vitalIn_iff r b).mp ((hmem b).mp List.mem_cons_self)
      exact absurd hzero (habove b ((List.pairwise_cons.mp hsorted).1 h hrest) e he)

/-! ## The refusal, step by step -/

/-- The steps of R98 from step 6 on. -/
def State.lateRefusal (r : JobRecord) (s : State) : Option (Status × List Byte) :=
  match s.store.tableFault r.tables with
  | some (status, i) => some (status, stepData 6 i)
  | none =>
    if s.counts < 4 * s.jobCells then some (.geometry, be8 7)
    else
      match s.store.fixedFault r.fixedSlots with
      | some (status, i) => some (status, stepData 8 i)
      | none =>
        match s.store.stagedSlot r.slots with
        | some i => some (.staging, stepData 9 i)
        | none => (s.firstVital (s.armSheds r)).map (fun h => (.budget, stepData 10 h.val))

/-- Steps 3 to 5 of R98 pass. -/
structure State.MayArm (s : State) : Prop where
  estop : s.lines.estopN = true
  settings : s.ctu.settings.isSome = true
  resolved : s.ctu.resolved.isSome = true
  idle : ∀ h : Head, s.channelState h ≠ .calibrating

theorem State.MayArm.refusal {s : State} (hs : s.MayArm) (r : JobRecord) : s.armRefusal r = s.lateRefusal r := by
  have hidle : s.calibratingHead = none := by
    rw [← Option.not_isSome_iff_eq_none, calibratingHead_isSome]
    exact fun ⟨h, hc⟩ => hs.idle h hc
  have htiming : (s.ctu.settings.isNone || s.ctu.resolved.isNone) = false := by
    simp [← Option.not_isSome, hs.settings, hs.resolved]
  unfold State.armRefusal State.lateRefusal
  simp only [State.estopAsserted, hs.estop, htiming, hidle, Bool.not_true, Bool.false_eq_true, if_false]
  cases s.store.tableFault r.tables with
  | some x => rfl
  | none =>
    dsimp only
    split
    · rfl
    · cases s.store.fixedFault r.fixedSlots with
      | some x => rfl
      | none =>
        cases s.store.stagedSlot r.slots with
        | some i => rfl
        | none => cases s.firstVital (s.armSheds r) <;> rfl

end Sys2Proof.Machine
end

section
/-! ARM (O39, O40). -/

namespace Sys2Proof.Machine

open Sys2Proof.Claims

theorem exec_arm (tag : Half) (s : State) (hr : s.inReset = false) (hj : s.job.state = .setup) :
    exec (.arm tag []) s = .next (answerOf 0x31 tag (arm s)) :=
  command_available .arm tag [] arm s hr rfl (beq_iff_eq.mpr hj)

/-- An ARM that a step of R98 refuses changes nothing. -/
theorem exec_arm_refused {r : JobRecord} {s : State} {status : Status} {data : List Byte} (tag : Half)
    (hr : s.inReset = false) (hj : s.job.state = .setup) (hrec : s.job.record = some r)
    (h : s.armRefusal r = some (status, data)) :
    exec (.arm tag []) s = .next (answer 0x31 tag status data s) := by
  rw [exec_arm tag s hr hj, arm, hrec]
  simp only [h, answerOf_mk]

/-- The effect of ARM is what R99 says it is. -/
theorem State.armJob_eq (r : JobRecord) (s : State) : s.armJob r = armedState r s := by
  rw [State.armJob, State.engage, Store.bind_eq, r.slots_eq]
  rfl

/-! ## The steps of a refusal -/

/-- The first of ascending heads with a property. -/
theorem find?_of_first {p : Head → Bool} {h : Head} (hp : p h = true) (hfirst : ∀ g : Head, g < h → p g = false)
    {heads : List Head} (hsorted : heads.Pairwise (· < ·)) (hmem : h ∈ heads) : heads.find? p = some h := by
  induction heads with
  | nil => cases hmem
  | cons a rest ih =>
    rw [List.pairwise_cons] at hsorted
    rcases List.mem_cons.mp hmem with rfl | hrest
    · exact List.find?_cons_of_pos hp
    · rw [List.find?_cons_of_neg (Bool.eq_false_iff.mp (hfirst a (hsorted.1 h hrest)))]
      exact ih hsorted.2 hrest

/-- The first head in calibration is the one that step 5 names. -/
theorem calibratingHead_of_first {h : Head} {s : State} (hc : s.channelState h = .calibrating)
    (hfirst : ∀ g : Head, g < h → s.channelState g ≠ .calibrating) : s.calibratingHead = some h :=
  find?_of_first (p := fun g => s.channelState g == .calibrating) (beq_iff_eq.mpr hc)
    (fun g hg => beq_eq_false_iff_ne.mpr (hfirst g hg)) (by decide) (mem_allHeads h)

section Late

variable {r : JobRecord} {s : State}

theorem State.lateRefusal_of_table {status : Status} {i : Nat}
    (h : s.store.tableFault (namedTables r) = some (status, i)) :
    s.lateRefusal r = some (status, [6] ++ be8 i) := by
  rw [State.lateRefusal, r.tables_eq, h]
  rfl

theorem State.lateRefusal_of_geometry (htables : ∀ x ∈ namedTables r, slotKind x.1 = x.2 ∧ usable s x.1)
    (hcounts : s.counts < 4 * s.jobCells) : s.lateRefusal r = some (.geometry, [7]) := by
  rw [State.lateRefusal, r.tables_eq, Store.tableFault_of_usable htables]
  exact if_pos hcounts

variable (htables : ∀ x ∈ namedTables r, slotKind x.1 = x.2 ∧ usable s x.1) (hcounts : 4 * s.jobCells ≤ s.counts)
include htables hcounts

theorem State.lateRefusal_of_fixed {status : Status} {i : Nat}
    (h : s.store.fixedFault (namedFixed r) = some (status, i)) :
    s.lateRefusal r = some (status, [8] ++ be8 i) := by
  rw [State.lateRefusal, r.tables_eq, r.fixedSlots_eq, Store.tableFault_of_usable htables, h]
  exact if_neg (Nat.not_lt.mpr hcounts)

variable (hfixed : ∀ i ∈ namedFixed r, usable s i)
include hfixed

theorem State.lateRefusal_of_staging {i : Nat} (ho : s.store.owner = some i)
    (hi : i ∈ (namedTables r).map Prod.fst ++ namedFixed r) : s.lateRefusal r = some (.staging, [9] ++ be8 i) := by
  rw [State.lateRefusal, r.tables_eq, r.fixedSlots_eq, r.slots_eq, Store.tableFault_of_usable htables,
    Store.fixedFault_of_usable hfixed, Store.stagedSlot_of_mem ho hi]
  exact if_neg (Nat.not_lt.mpr hcounts)

theorem State.lateRefusal_of_owner
    (howner : ∀ i, s.store.owner = some i → i ∉ (namedTables r).map Prod.fst ++ namedFixed r) :
    s.lateRefusal r = (s.firstVital (s.armSheds r)).map (fun h => (.budget, [10] ++ be8 h.val)) := by
  rw [State.lateRefusal, r.tables_eq, r.fixedSlots_eq, r.slots_eq, Store.tableFault_of_usable htables,
    Store.fixedFault_of_usable hfixed, Store.stagedSlot_of_not_mem howner]
  exact if_neg (Nat.not_lt.mpr hcounts)

end Late

/-- The first table that is not as it must be, by kind before state (step 6). -/
theorem Store.tableFault_at {r : JobRecord} {s : State} {before after : List (Nat × SlotKind)} {i : Nat}
    {kind : SlotKind} (heq : namedTables r = before ++ (i, kind) :: after)
    (hbefore : ∀ x ∈ before, slotKind x.1 = x.2 ∧ usable s x.1) :
    (slotKind i ≠ kind → s.store.tableFault (namedTables r) = some (.badParam, i)) ∧
      (slotKind i = kind → (s.store.slot i).state = .empty →
        s.store.tableFault (namedTables r) = some (.empty, i)) ∧
      (slotKind i = kind → (s.store.slot i).state = .committing →
        s.store.tableFault (namedTables r) = some (.busy, i)) := by
  rw [heq, Store.tableFault_append hbefore, Store.tableFault]
  refine ⟨fun hkind => if_pos hkind, fun hkind hst => ?_, fun hkind hst => ?_⟩
  all_goals rw [if_neg (not_not.mpr hkind), Store.unreadable, hst]

/-- The first head calibration or budget record that is not readable (step 8). -/
theorem Store.fixedFault_at {r : JobRecord} {s : State} {before after : List Nat} {i : Nat}
    (heq : namedFixed r = before ++ i :: after) (hbefore : ∀ j ∈ before, usable s j) :
    ((s.store.slot i).state = .empty → s.store.fixedFault (namedFixed r) = some (.empty, i)) ∧
      ((s.store.slot i).state = .committing → s.store.fixedFault (namedFixed r) = some (.busy, i)) := by
  rw [heq, Store.fixedFault_append hbefore, Store.fixedFault]
  refine ⟨fun hst => ?_, fun hst => ?_⟩
  all_goals rw [Store.unreadable, hst]

/-! ## The two statements -/

/-- Settles O39, by the steps of R98, which all pass. -/
theorem armBindsTablesAndEngagesHeads : Obligations.ArmBindsTablesAndEngagesHeads := by
  intro tag r s hr hj hrec hestop hsettings hresolved hidle htables hcounts hfixed howner hvital
  have hnone : s.armRefusal r = none := by
    rw [State.MayArm.refusal ⟨hestop, hsettings, hresolved, hidle⟩,
      State.lateRefusal_of_owner htables hcounts hfixed howner, State.firstVital_armSheds hrec, if_pos hvital]
    rfl
  rw [exec_arm tag s hr hj, arm, hrec]
  simp only [hnone, answerOf_mk, State.armJob_eq]

/-- Settles O40, by the steps of R98 in their order. -/
theorem armIsRefusedByFirstFailingStep : Obligations.ArmIsRefusedByFirstFailingStep := by
  intro tag s hr hj no
  refine ⟨fun hrec => ?_, fun r hrec => ?_⟩
  · show exec (.arm tag []) s = _
    rw [exec_arm tag s hr hj, arm, hrec]
    rfl
  have hno : ∀ status data, s.armRefusal r = some (status, data) → no status data := fun status data h =>
    exec_arm_refused tag hr hj hrec h
  refine ⟨fun hestop => hno _ _ ?_, fun hestop htiming => hno _ _ ?_, fun hestop hsettings hresolved =>
    ⟨fun h hc hfirst => hno _ _ ?_, fun hidle => ?_⟩⟩
  · rw [State.armRefusal, State.estopAsserted, hestop]
    rfl
  · have hnone : (s.ctu.settings.isNone || s.ctu.resolved.isNone) = true := by
      rcases htiming with h | h <;> simp [h]
    rw [State.armRefusal, State.estopAsserted, hestop, hnone]
    rfl
  · have hsome : (s.ctu.settings.isNone || s.ctu.resolved.isNone) = false := by
      simp [← Option.not_isSome, hsettings, hresolved]
    rw [State.armRefusal, State.estopAsserted, hestop, hsome, calibratingHead_of_first hc hfirst]
    rfl
  have hlate : ∀ status data, s.lateRefusal r = some (status, data) → no status data := fun status data h =>
    hno _ _ ((State.MayArm.refusal ⟨hestop, hsettings, hresolved, hidle⟩ r).trans h)
  refine ⟨fun before i kind after heq hbefore => ?_, fun htables => ⟨fun hcounts => ?_, fun hcounts =>
    ⟨fun before i after heq hbefore => ?_, fun hfixed => ⟨fun i ho hi => ?_, fun howner h hover hvital habove => ?_⟩⟩⟩⟩
  · obtain ⟨hkind, hempty, hbusy⟩ := Store.tableFault_at heq hbefore
    exact ⟨fun h => hlate _ _ (State.lateRefusal_of_table (hkind h)),
      fun h hst => hlate _ _ (State.lateRefusal_of_table (hempty h hst)),
      fun h hst => hlate _ _ (State.lateRefusal_of_table (hbusy h hst))⟩
  · exact hlate _ _ (State.lateRefusal_of_geometry htables hcounts)
  · obtain ⟨hempty, hbusy⟩ := Store.fixedFault_at heq hbefore
    exact ⟨fun hst => hlate _ _ (State.lateRefusal_of_fixed htables hcounts (hempty hst)),
      fun hst => hlate _ _ (State.lateRefusal_of_fixed htables hcounts (hbusy hst))⟩
  · exact hlate _ _ (State.lateRefusal_of_staging htables hcounts hfixed ho hi)
  · refine hlate _ _ ?_
    rw [State.lateRefusal_of_owner htables hcounts hfixed howner, State.firstVital_armSheds hrec,
      if_neg (Nat.not_le.mpr hover), vital_head?_of_highest hvital habove]
    rfl

end Sys2Proof.Machine
end

section
/-! The stroke histories (O50). -/

namespace Sys2Proof.Machine

open Sys2Proof.Claims

/-! ## Histories in the order of their tags -/

/-- Two tags at most sixteen strokes apart are distinct, as a tag has eight bits. -/
theorem sub_ofNat_ne {m n : Nat} (tag : BitVec 8) (hm : m ≤ 16) (hlt : n < m) :
    tag - BitVec.ofNat 8 m ≠ tag - BitVec.ofNat 8 n := by
  intro heq
  have hval : m % 256 = n % 256 := by
    simpa only [BitVec.toNat_ofNat] using congrArg BitVec.toNat (sub_right_injective heq)
  omega

theorem historyOrdered.tags_nodup {tag : BitVec 8} {history : List HistoryEntry} (h : historyOrdered tag history) :
    (history.map (·.tag)).Nodup := by
  obtain ⟨hsize, htag⟩ := h
  rw [List.Nodup, List.pairwise_map, List.pairwise_iff_getElem]
  intro i j hi hj hij
  rw [htag i hi, htag j hj]
  exact sub_ofNat_ne tag ((Nat.sub_le ..).trans hsize) (by omega)

/-- The oldest entry leaves. -/
theorem historyOrdered.drop_one {tag : BitVec 8} {history : List HistoryEntry} (h : historyOrdered tag history) :
    historyOrdered tag (history.drop 1) := by
  obtain ⟨hsize, htag⟩ := h
  refine ⟨(history.drop_sublist 1).length_le.trans hsize, fun i hi => ?_⟩
  rw [List.length_drop] at hi
  rw [List.getElem_drop, htag (1 + i) (by omega), List.length_drop, Nat.sub_sub]

/-- A stroke with the next tag becomes the newest entry of a history that has room for it. -/
theorem historyOrdered.concat {e : HistoryEntry} {history : List HistoryEntry} (h : historyOrdered e.tag history)
    (hroom : history.length < 16) : historyOrdered (e.tag + 1) (history ++ [e]) := by
  obtain ⟨-, htag⟩ := h
  refine ⟨by rw [List.length_append]; exact hroom, fun i hi => ?_⟩
  rw [List.length_append, List.length_singleton] at hi
  have hnext : e.tag + 1 - BitVec.ofNat 8 (history.length + 1 - i) =
      e.tag - BitVec.ofNat 8 (history.length - i) := by
    rw [Nat.succ_sub (Nat.le_of_lt_succ hi), Nat.succ_eq_add_one, BitVec.ofNat_add]
    exact add_sub_add_right_eq_sub ..
  simp only [List.length_append, List.length_singleton, hnext]
  rcases Nat.lt_or_eq_of_le (Nat.le_of_lt_succ hi) with hold | rfl
  · rw [List.getElem_append_left hold, htag i hold]
  · simp

/-- A stroke entered keeps a history in order, the oldest entry of a full one leaving (R125). -/
theorem pushEntry_ordered {e : HistoryEntry} {history : List HistoryEntry} (h : historyOrdered e.tag history) :
    historyOrdered (e.tag + 1) (pushEntry e history) := by
  have hsize : history.length ≤ 16 := h.1
  unfold pushEntry
  split
  · rename_i hfull
    have hfull : 16 ≤ history.length := hfull
    exact h.drop_one.concat (by rw [List.length_drop]; omega)
  · rename_i hroom
    exact h.concat (Nat.lt_of_not_le hroom)

/-! ## The stroke and the chain of moves -/

theorem State.enterStroke_monitors (h : Head) (word : Nat) (closed : Bool) (s : State) :
    (s.enterStroke h word closed).monitors = s.monitors.set h
      ((s.monitors.get h).enter ⟨(s.channels.get h).tag, word, closed, false⟩) := by
  rw [State.enterStroke_eq]
  split <;> rfl

/-- A stroke enters the history of its head with the present tag. -/
theorem State.emit_history (h : Head) (stroke : Stroke) (s : State) :
    ((s.emit h stroke).monitors.get h).history =
      pushEntry ⟨(s.channels.get h).tag, stroke.word, stroke.closed, false⟩ (s.monitors.get h).history := by
  simp [State.emit, State.enterStroke_monitors, Monitor.enter, Channel.present]

/-- A stroke advances the tag of its head. -/
theorem State.emit_tag (h : Head) (stroke : Stroke) (s : State) :
    ((s.emit h stroke).channels.get h).tag = (s.channels.get h).tag + 1 := by
  have hwear : ∀ c : Channel, (c.countWear stroke.closed).tag = c.tag := fun c => by
    unfold Channel.countWear
    split <;> rfl
  simp [State.emit, Channel.advance, hwear, Channel.present]

/-- A stroke keeps every history in order: its own head's takes it in, and the others stand. -/
theorem State.emit_historiesOrdered (h : Head) (stroke : Stroke) (s : State) (hs : s.HistoriesOrdered) :
    (s.emit h stroke).HistoriesOrdered := by
  intro k
  by_cases hk : k = h
  · subst hk
    rw [State.emit_history, State.emit_tag]
    exact pushEntry_ordered (hs k)
  · have hview := State.emit_countView_other hk (s := s) stroke
    have hchannel : (s.emit h stroke).channels.get k = s.channels.get k := congrArg CountView.channel hview
    have hmonitor : (s.emit h stroke).monitors.get k = s.monitors.get k := congrArg CountView.monitor hview
    rw [hchannel, hmonitor]
    exact hs k

/-- The tags and the histories change in a chain of moves only at a stroke, where a move of one block says so, and at a
full reset. -/
theorem Moves.historiesOrdered {s t : State} (h : Moves s t) : s.HistoriesOrdered → t.HistoriesOrdered := by
  induction h with
  | refl s => exact id
  | trans _ _ ihs iht => exact fun hs => iht (ihs hs)
  | free | link | queues | cals | store => exact fun hs => hs
  | channels cs s hc =>
    intro hs k
    rw [(hc k).1]
    exact hs k
  | monitors ms s hm => exact fun hs k => hm k _ (hs k)
  | emit h stroke s => exact s.emit_historiesOrdered h stroke
  | fullReset s =>
    intro _ k
    have hblank : s.fullReset.monitors.get k = Monitor.afterReset := PerHead.get_const Monitor.afterReset k
    rw [hblank]
    exact historyOrdered_nil _

theorem historiesHoldLatestStrokes : HistoriesHoldLatestStrokes := by
  intro s t hs h
  rcases step_cases s t h with rfl | ⟨c, rest, -, h⟩
  · exact hs
  · exact (exec_moves c _ t h).historiesOrdered hs

/-- Settles O50: every step is a chain of moves, and tags at most sixteen strokes apart are distinct. -/
theorem historiesHoldLatestDistinctStrokes : Obligations.HistoriesHoldLatestDistinctStrokes :=
  ⟨historiesHoldLatestStrokes, fun _ h hs => ⟨(hs h).1, (hs h).tags_nodup⟩⟩

end Sys2Proof.Machine
end

section
/-! The arrival of a monitor sample (O49). -/

namespace Sys2Proof.Machine

open Sys2Proof.Claims

/-! ## The class of a stroke, and the fault it raises -/

/-- The class by the magnitude and the sign of the error is the class by its two bounds. -/
theorem classify_eq_classOf (p : MonitorParams) (e : HistoryEntry) (v : Nat) : classify p e v = classOf p e v := by
  have herror : sampleError p e.word v = errorOf p e v := rfl
  unfold classify classOf
  rw [herror]
  generalize errorOf p e v = error
  split
  · rfl
  split
  · rfl
  by_cases hover : (p.tolerance : Int) < error
  · rw [if_pos (by omega), if_pos (by omega), if_pos hover]
  rw [if_neg hover]
  by_cases hunder : (p.tolerance : Int) < -error
  · rw [if_pos (by omega), if_neg (by omega), if_pos hunder]
  · rw [if_neg (by omega), if_neg hunder]

theorem isDeviation_eq_deviates (k : StrokeClass) : isDeviation k = deviates k := by
  cases k <;> rfl

/-- The fault of a stroke and its run, put together. -/
theorem faultOf_eq (p : MonitorParams) (k : StrokeClass) (m : Monitor) :
    faultOf p k m = (raisedFault p k m).map (fun fault => (fault, raisedRun k m)) := by
  unfold faultOf raisedFault raisedRun deviationRunAfter
  rw [isDeviation_eq_deviates]
  cases k with
  | good => rfl
  | lift => by_cases hlimit : p.liftLimit ≤ m.liftRun + 1 <;> simp [liftRunAfter, deviates, hlimit]
  | overcut | undercut | drag =>
    by_cases hlimit : p.deviationLimit ≤ m.deviationRun + 1 <;> simp [deviates, hlimit]

/-- A run grows at a stroke of its own class that raises no fault, and is 0 after any other (R130, R131). -/
theorem Monitor.noteClass_eq (p : MonitorParams) (k : StrokeClass) (m : Monitor) :
    m.noteClass p k =
      { m with
        liftRun := if k = .lift ∧ faultOf p k m = none then m.liftRun + 1 else 0
        deviationRun := if deviates k = true ∧ faultOf p k m = none then m.deviationRun + 1 else 0 } := by
  unfold Monitor.noteClass raisedFault faultOf deviationRunAfter
  rw [isDeviation_eq_deviates]
  cases k with
  | good => rfl
  | lift => by_cases hlimit : p.liftLimit ≤ m.liftRun + 1 <;> simp [liftRunAfter, deviates, hlimit]
  | overcut | undercut | drag =>
    by_cases hlimit : p.deviationLimit ≤ m.deviationRun + 1 <;> simp [liftRunAfter, deviates, hlimit]

/-- The counters of a classified stroke: the error is captured only where one is computed (R129). -/
theorem countClass_eq (p : MonitorParams) (e : HistoryEntry) (k : StrokeClass) (v : Nat) (c : HeadCounters) :
    countClass p e k v c =
      { c with
        cells := { c.cells with
          lift := if k = .lift then min 16777215 (c.cells.lift + 1) else c.cells.lift
          deviation := if deviates k then min 16777215 (c.cells.deviation + 1) else c.cells.deviation }
        maxError :=
          if e.closed = true ∨ v < p.liftThreshold then c.maxError
          else max c.maxError (errorOf p e v).natAbs } := by
  have hcomputed : errorComputed p e v = true ↔ ¬ (e.closed = true ∨ v < p.liftThreshold) := by
    simp [errorComputed]
  unfold countClass
  simp only [isDeviation_eq_deviates, hcomputed, ite_not]
  rfl

/-- A deviation stroke reports its expected value and its error unless it drags (R134). -/
theorem deviationDepth_eq {k : StrokeClass} (hk : deviates k = true) (p : MonitorParams) (e : HistoryEntry) (v : Nat) :
    deviationDepth p e k v = if k = .drag then none else some (e.word * p.gain / 4096, errorOf p e v) := by
  cases k with
  | good | lift => cases hk
  | overcut | undercut | drag => rfl

/-- An entry is paired where it stands alone with its tag. -/
theorem Monitor.pair_eq {m : Monitor} {before after : List HistoryEntry} {e : HistoryEntry}
    (hm : m.history = before ++ e :: after) (hbefore : ∀ x ∈ before, x.tag ≠ e.tag)
    (hafter : ∀ x ∈ after, x.tag ≠ e.tag) :
    m.pair e.tag = { m with history := before ++ { e with matched := true } :: after, missingRun := 0 } := by
  have hothers : ∀ l : List HistoryEntry, (∀ x ∈ l, x.tag ≠ e.tag) →
      l.map (fun x => if x.tag = e.tag then { x with matched := true } else x) = l := fun l hl =>
    (List.map_congr_left (fun x hx => if_neg (hl x hx))).trans l.map_id'
  rw [Monitor.pair, hm, List.map_append, List.map_cons, hothers before hbefore, hothers after hafter, if_pos rfl]

/-! ## The course of a sample -/

theorem faultTaken_eq (h : Head) (fault : StylusFault) (run : Nat) (tag : BitVec 8) (v : Nat) (s : State) :
    (s.raiseFault h fault run tag (some v)).actFault h fault (s.faultAction h) =
      faultTaken h fault run tag v s := by
  rw [faultTaken, State.raiseFault, State.faultAction_eq]
  rfl

/-- A paired stroke counted, and its DEVIATION event posted, before a fault it raises is taken. -/
def State.noted (h : Head) (p : MonitorParams) (e : HistoryEntry) (v : Nat) (s : State) : State :=
  let k := classify p e v
  let counted := (s.updMonitor h (Monitor.noteClass p k)).updCounters h (countClass p e k v)
  if isDeviation k then
    counted.post (.deviation h e.tag k v (deviationDepth p e k v)
      (deviationRunAfter k (s.monitors.get h).deviationRun))
  else counted

theorem State.classified_eq_noted (h : Head) (p : MonitorParams) (e : HistoryEntry) (v : Nat) (s : State) :
    s.classified h p e v =
      match faultOf p (classOf p e v) (s.monitors.get h) with
      | none => s.noted h p e v
      | some f => faultTaken h f.1 f.2 e.tag v (s.noted h p e v) := by
  rw [faultOf_eq, ← classify_eq_classOf, State.classified]
  cases raisedFault p (classify p e v) (s.monitors.get h) with
  | none => rfl
  | some fault => exact faultTaken_eq h fault _ e.tag v (s.noted h p e v)

section Paired

variable {h : Head} {s : State} {before after : List HistoryEntry} {e : HistoryEntry}
  (hm : (s.monitors.get h).history = before ++ e :: after) (hbefore : ∀ x ∈ before, x.tag ≠ e.tag)
  (hafter : ∀ x ∈ after, x.tag ≠ e.tag)
include hm hbefore hafter

/-- A sample paired with the one entry of its tag and noted: the entry matched, the runs and the counters moved. -/
theorem State.noted_pair (p : MonitorParams) (v : Nat) :
    (s.updMonitor h (Monitor.pair e.tag)).noted h p e v = classifiedState h p before e after v s := by
  simp only [State.noted, classifiedState, classify_eq_classOf, isDeviation_eq_deviates, State.updMonitor,
    State.updCounters, Rpt.updHead, PerHead.get_set_same, PerHead.set_set, Monitor.noteClass_eq, countClass_eq,
    Monitor.pair_eq hm hbefore hafter]
  cases hk : deviates (classOf p e v) with
  | false => rfl
  | true =>
    rw [deviationDepth_eq hk, deviationRunAfter, isDeviation_eq_deviates, hk]
    rfl

/-- A sample whose entry is unmatched, classified with the fault it raises. -/
theorem State.classified_pair (p : MonitorParams) (v : Nat) :
    (s.updMonitor h (Monitor.pair e.tag)).classified h p e v =
      match faultOf p (classOf p e v) (s.monitors.get h) with
      | none => classifiedState h p before e after v s
      | some f => faultTaken h f.1 f.2 e.tag v (classifiedState h p before e after v s) := by
  have hruns : faultOf p (classOf p e v) ((s.updMonitor h (Monitor.pair e.tag)).monitors.get h) =
      faultOf p (classOf p e v) (s.monitors.get h) := by
    rw [State.updMonitor_monitors, PerHead.get_set_same]
    rfl
  rw [State.classified_eq_noted, hruns, State.noted_pair hm hbefore hafter]

end Paired

theorem exec_monitorSample (h : Head) (value : BitVec 10) (tag : BitVec 8) (s : State) (hr : s.inReset = false) :
    exec (.monitorSample h value tag) s = .next (State.arbitrate (s.sample h value.toNat tag)) :=
  serve_live _ s hr

/-- Settles O49, by the entry of the history that bears the tag. -/
theorem sampleIsLateDuplicateOrClassified : Obligations.SampleIsLateDuplicateOrClassified := by
  intro h value tag s hr m c
  rw [exec_monitorSample h value tag s hr, State.sample]
  refine ⟨fun hnone => ?_, fun before e after hm htag hbefore hafter => ?_⟩
  · have hfind : m.history.find? (fun e => e.tag == tag) = none :=
      List.find?_eq_none.mpr (fun x hx => by simpa using hnone x hx)
    rw [hfind]
    rfl
  subst htag
  have hfind : m.history.find? (fun x => x.tag == e.tag) = some e :=
    List.find?_eq_some_iff_append.mpr ⟨beq_self_eq_true _, before, after, hm, fun x hx => by simpa using hbefore x hx⟩
  rw [hfind]
  refine ⟨fun hmatched => ?_, fun hunmatched p hp => ?_⟩
  · dsimp only
    rw [if_pos hmatched]
    rfl
  · have hp : (s.monitors.get h).params = some p := hp
    dsimp only
    rw [hunmatched, hp]
    exact congrArg (fun t => Host.Outcome.next (State.arbitrate t))
      (State.classified_pair hm hbefore hafter p value.toNat)

end Sys2Proof.Machine
end

section
/-! CALIBRATE (O51). -/

namespace Sys2Proof.Machine

theorem slotKind_eq_screen (slot : Nat) : slotKind slot = .screen ↔ 16 ≤ slot ∧ slot ≤ 23 := by
  unfold slotKind
  split_ifs <;> simp only [true_iff, false_iff] <;> omega

end Sys2Proof.Machine

namespace Sys2Proof.Claims

open Sys2Proof.Machine

section Parameters

variable {p : CalParams}

/-! ## The checks of step 1 (R140) -/

/-- The checks of the parameters with their positions; those of a code pair are one check of its second. -/
def CalParams.checks (p : CalParams) : List (Bool × Nat) :=
  [(within 0 3 p.head, 1), (within 0 36 p.screen, 2), (within 0 4095 p.codeLo, 3),
   (within 0 4095 p.codeHi && decide (p.codeLo < p.codeHi), 4), (decide (1 ≤ p.n), 5),
   (decide (p.wMin ≤ p.wMax), 7), (within 0 1000 p.agree, 8), (within 1 255 p.timeout, 9)]

/-- The positions at which R140 refuses a parameter. -/
def CalParams.bad (p : CalParams) (n : Nat) : Prop :=
  (n = 1 ∧ 3 < p.head) ∨ (n = 2 ∧ 36 < p.screen) ∨ (n = 3 ∧ 4095 < p.codeLo) ∨
    (n = 4 ∧ (4095 < p.codeHi ∨ p.codeHi ≤ p.codeLo)) ∨ (n = 5 ∧ p.n = 0) ∨ (n = 7 ∧ p.wMax < p.wMin) ∨
    (n = 8 ∧ 1000 < p.agree) ∨ (n = 9 ∧ p.timeout = 0)

theorem CalParams.checks_ordered (p : CalParams) : (p.checks.map Prod.snd).Pairwise (· < ·) := by
  have hpositions : p.checks.map Prod.snd = [1, 2, 3, 4, 5, 7, 8, 9] := rfl
  rw [hpositions]
  decide

/-- The positions that R140 refuses are those of the checks that fail. -/
theorem CalParams.bad_iff (hp : p.Fits) (n : Nat) : p.bad n ↔ (false, n) ∈ p.checks := by
  have htimeout : ¬ 255 < p.timeout := Nat.not_lt.mpr (Nat.le_of_lt_succ hp.bytes.2.2)
  simp only [CalParams.bad, CalParams.checks, failing_mem_cons, within_eq_false, Bool.and_eq_false_iff,
    decide_eq_false_iff_not, List.not_mem_nil, Nat.not_lt_zero, Nat.not_lt, Nat.not_le, Nat.lt_one_iff, htimeout,
    false_or, or_false]

/-! ## The parameters read back from their bytes -/

theorem CalParams.fields (hp : p.Fits) :
    field p.bytes 0 1 = p.head ∧ field p.bytes 1 1 = p.screen ∧ field p.bytes 2 2 = p.codeLo ∧
      field p.bytes 4 2 = p.codeHi ∧ field p.bytes 6 2 = p.n ∧ field p.bytes 8 2 = p.wMin ∧
      field p.bytes 10 2 = p.wMax ∧ field p.bytes 12 2 = p.agree ∧ field p.bytes 14 1 = p.timeout := by
  obtain ⟨hhead, hscreen, htimeout⟩ := hp.bytes
  obtain ⟨hlo, hhi, hn⟩ := hp.codes
  obtain ⟨hmin, hmax, hagree⟩ := hp.widths
  exact ⟨beNat_be8 _ hhead, beNat_be8 _ hscreen, beNat_be16 _ hlo, beNat_be16 _ hhi, beNat_be16 _ hn,
    beNat_be16 _ hmin, beNat_be16 _ hmax, beNat_be16 _ hagree, beNat_be8 _ htimeout⟩

theorem CalParams.calSetup_bytes (hp : p.Fits) (s : State) (h : Head) :
    calSetup p.bytes s h =
      { codeLo := p.codeLo, codeHi := p.codeHi, cellsPerLevel := p.n, wMin := p.wMin, wMax := p.wMax
        agreeTol := p.agree, timeout := p.timeout, cells := entryNat (s.store.slot p.screen).entries 0
        headcal := s.headcal h } := by
  obtain ⟨-, hscreen, hlo, hhi, hn, hmin, hmax, hagree, htimeout⟩ := CalParams.fields hp
  rw [calSetup, hscreen, hlo, hhi, hn, hmin, hmax, hagree, htimeout]

theorem CalParams.calibrateFailure_bytes (hp : p.Fits) : calibrateFailure p.bytes = firstFailure p.checks := by
  obtain ⟨hhead, hscreen, hlo, hhi, hn, hmin, hmax, hagree, htimeout⟩ := CalParams.fields hp
  rw [calibrateFailure, hhead, hscreen, hlo, hhi, hn, hmin, hmax, hagree, htimeout]
  simp only [CalParams.checks, firstFailure]
  cases within 0 4095 p.codeHi <;> rfl

/-- The first bad parameter is the failure that step 1 finds. -/
theorem CalParams.calibrateFailure_of_bad (hp : p.Fits) {n : Nat} (hbad : p.bad n)
    (hfirst : ∀ m, m < n → ¬ p.bad m) : calibrateFailure p.bytes = some n :=
  (CalParams.calibrateFailure_bytes hp).trans
    (firstFailure_of_least p.checks_ordered ((CalParams.bad_iff hp n).mp hbad)
      (fun m hm hmem => hfirst m hm ((CalParams.bad_iff hp m).mpr hmem)))

theorem CalParams.calibrateFailure_of_good (hp : p.Fits) (hgood : p.Good) : calibrateFailure p.bytes = none := by
  have hnot : ∀ n, ¬ p.bad n := by
    unfold CalParams.Good at hgood
    unfold CalParams.bad
    omega
  rw [CalParams.calibrateFailure_bytes hp, firstFailure_eq_none]
  rintro ⟨ok, position⟩ hc
  cases ok with
  | true => rfl
  | false => exact absurd ((CalParams.bad_iff hp position).mpr hc) (hnot position)

/-! ## Steps 2 to 9 (R140) -/

theorem CalParams.calRefusal_bytes (hp : p.Fits) (h : Head) (s : State) :
    s.calRefusal p.bytes h = calRefused p h s := by
  have hscreen : slotKind p.screen ≠ .screen ↔ p.screen < 16 ∨ 23 < p.screen := by
    rw [ne_eq, slotKind_eq_screen]
    omega
  obtain ⟨-, hslot, -, -, hn, -⟩ := CalParams.fields hp
  simp only [State.calRefusal, calRefused, hslot, hn, hscreen, State.estopAsserted,
    Bool.not_eq_true', Bool.or_eq_true, Option.isNone_iff_eq_none, headcalSlot]
  rfl

end Parameters

end Sys2Proof.Claims

namespace Sys2Proof.Machine

open Sys2Proof.Claims

/-! ## The command -/

theorem exec_calibrate (tag : Half) (p : CalParams) (s : State) (hr : s.inReset = false) (hj : s.job.state = .setup) :
    exec (.calibrate tag p.bytes) s = .next (answerOf 0x40 tag (calibrate p.bytes s)) :=
  command_available .calibrate tag p.bytes _ s hr rfl (beq_iff_eq.mpr hj)

theorem calibrate_bad {p : CalParams} (hp : p.Fits) (s : State) {n : Nat} (hbad : p.bad n)
    (hfirst : ∀ m, m < n → ¬ p.bad m) : calibrate p.bytes s = (s, .badParam, be8 n) := by
  rw [calibrate, CalParams.calibrateFailure_of_bad hp hbad hfirst]

theorem calibrateStartsFromWorkingCopies : CalibrateStartsFromWorkingCopies := by
  intro tag p h s hr hj hp hgood hh hc cells
  obtain ⟨hhead, -⟩ := CalParams.fields hp
  rw [exec_calibrate tag p s hr hj, calibrate, CalParams.calibrateFailure_of_good hp hgood, hhead, hh, headOf_val]
  dsimp only
  rw [CalParams.calRefusal_bytes hp, CalParams.calSetup_bytes hp]
  refine ⟨fun status data hrefused => ?_, fun hnone => ?_⟩
  · rw [hrefused]
    rfl
  · rw [hnone]
    rfl

theorem calibrateRefusesBadParameter : CalibrateRefusesBadParameter := by
  intro tag p s hr hj hp no
  have hno : ∀ n, p.bad n → (∀ m, m < n → ¬ p.bad m) → no n := fun n hbad hfirst => by
    show exec _ s = _
    rw [exec_calibrate tag p s hr hj, calibrate_bad hp s hbad hfirst]
    rfl
  unfold CalParams.bad at hno
  refine ⟨fun h1 => hno 1 (by omega) (by omega), fun h1 h2 => hno 2 (by omega) (by omega), fun h1 h2 =>
    ⟨fun h3 => hno 3 (by omega) (by omega), fun h3 h4 => hno 4 (by omega) (by omega), fun h3 h4 =>
      ⟨fun h5 => hno 5 (by omega) (by omega), fun h5 h7 => hno 7 (by omega) (by omega),
        fun h5 h7 h8 => hno 8 (by omega) (by omega), fun h5 h7 h8 h9 => hno 9 (by omega) (by omega)⟩⟩⟩

/-- Settles O51, by the first bad parameter and then by the first step that fails. -/
theorem calibrateChecksAndStarts : Obligations.CalibrateChecksAndStarts :=
  ⟨calibrateStartsFromWorkingCopies, calibrateRefusesBadParameter⟩

end Sys2Proof.Machine
end

section
/-! The phases of a calibration at a boundary, and its failures (O52). -/

namespace Sys2Proof.Machine

open Sys2Proof.Claims

/-! ## A boundary -/

section Boundary

variable {h : Head} {s : State} {u : CalSetup}

theorem State.calBoundary_waitIndex (hu : (s.cals.get h).phase = .waitIndex u) : s.calBoundary h = s.startCut h u := by
  rw [State.calBoundary, hu]

theorem State.calBoundary_cut (hu : (s.cals.get h).phase = .cut u) : s.calBoundary h = s.endCut h u := by
  rw [State.calBoundary, hu]

theorem State.calBoundary_awaitMeasure (hu : (s.cals.get h).phase = .awaitMeasure u) : s.calBoundary h = s := by
  rw [State.calBoundary, hu]

end Boundary

theorem State.calibrating_iff (h : Head) (s : State) : s.calibrating h = true ↔ (s.cals.get h).phase ≠ .none := by
  rw [State.calibrating]
  cases (s.cals.get h).phase <;> simp [CalPhase.setup?]

theorem boundaryMovesCalibrationPhase : BoundaryMovesCalibrationPhase := by
  refine fun h s => ⟨fun u hu => ?_, fun u hu hshort => ?_, fun u hu hwhole => ?_, fun u hu => ?_, fun hnone => ?_⟩
  · rw [State.calBoundary_waitIndex hu]
    rfl
  · rw [State.calBoundary_cut hu, State.endCut, if_pos hshort]
    exact s.failCal_eq h .short CalDetail.plain
  · rw [State.calBoundary_cut hu, State.endCut, if_neg (Nat.not_lt.mpr hwhole)]
    rfl
  · exact State.calBoundary_awaitMeasure hu
  · exact s.calBoundary_idle h (Bool.eq_false_iff.mpr fun hc => (s.calibrating_iff h).mp hc hnone)

/-! ## Failures -/

/-- The calibrations in progress at the event fail one after the other: the failure of one leaves the others in
progress. -/
theorem State.failAllCals_eq (cause : CalCause) (s : State) :
    s.failAllCals cause =
      allHeads.foldl (fun t g => if s.calibrating g then calFailed g cause CalDetail.plain t else t) s := by
  rw [State.failAllCals,
    ← forHeads_eq_foldl (fun g t => if s.calibrating g then calFailed g cause CalDetail.plain t else t)]
  refine forHeads_congr_of_view State.calibrating (fun h k t hk => ?_) s (fun h t ht => ?_)
  · split
    · rw [← State.failCal_eq, State.failCal_calibrating]
      simp [hk]
    · rfl
  · rw [ht, State.failCal_eq]

theorem exec_calCancel (tag : Half) (head : Byte) (s : State) (hr : s.inReset = false) :
    exec (.calCancel tag [head]) s = .next (answerOf 0x43 tag (calCancel [head] s)) :=
  command_answers .calCancel tag [head] _ s hr rfl (fun _ => rfl)

theorem exec_measurementTimeout (h : Head) (s : State) (hr : s.inReset = false) :
    exec (.measurementTimeout h) s = .next (State.arbitrate (s.measurementExpiry h)) :=
  serve_live _ s hr

theorem calibrationFailureReturnsHeadToOff : CalibrationFailureReturnsHeadToOff := by
  intro h s
  have hcalibrating := s.calibrating_iff h
  refine ⟨s.failCal_eq h, fun cause => s.failAllCals_eq cause, fun hr => ⟨fun tag head habove => ?_,
    fun tag head hh hnone => ?_, fun tag head hh hsome => ?_, fun u n hu hn => ?_⟩⟩
  · rw [exec_calCancel tag head s hr, calCancel, field_head, headOf_above _ habove]
    rfl
  · rw [exec_calCancel tag head s hr, calCancel, field_head, hh, headOf_val]
    dsimp only
    rw [if_neg (fun hc => hcalibrating.mp hc hnone)]
    rfl
  · rw [exec_calCancel tag head s hr, calCancel, field_head, hh, headOf_val]
    dsimp only
    rw [if_pos (hcalibrating.mpr hsome), s.failCal_eq]
    rfl
  · have hdue : ((s.cals.get h).timer.isSome && s.calibrating h) = true := by
      rw [hn, hcalibrating.mpr (by rw [hu]; nofun)]
      rfl
    rw [exec_measurementTimeout h s hr, State.measurementExpiry, if_pos hdue, s.failCal_eq]
    rfl

/-- Settles O52, by the phase of the calibration. -/
theorem calibrationMovesByBoundaryAndFails : Obligations.CalibrationMovesByBoundaryAndFails :=
  ⟨boundaryMovesCalibrationPhase, calibrationFailureReturnsHeadToOff⟩

end Sys2Proof.Machine
end

section
/-! The fit of gain and base (O53). -/

namespace Sys2Proof.Machine

/-! ## The outcomes of the fit (R148) -/

section Fit

variable {u : CalSetup} {lo hi : Nat}

theorem within_iff (lo hi n : Nat) : within lo hi n = true ↔ lo ≤ n ∧ n ≤ hi := by
  simp only [within, Bool.and_eq_true, decide_eq_true_eq]

theorem fit_order (h : hi ≤ lo) : fit u lo hi = .failed .fitOrder ⟨some (lo, hi), none, none⟩ := by
  rw [fit, if_pos h]

theorem fit_gain_range (h : lo < hi) (hgain : fitGain u lo hi < 256 ∨ 16383 < fitGain u lo hi) :
    fit u lo hi = .failed .fitRange ⟨some (lo, hi), some (.gain (fitGain u lo hi)), none⟩ := by
  have hout : (!within 256 16383 (fitGain u lo hi)) = true := by
    rw [(within_eq_false 256 16383 _).mpr hgain]
    rfl
  rw [fit, if_neg (Nat.not_le.mpr h), if_pos hout]

/-- With a rising depth and a gain in range the base decides. -/
theorem fit_of_gain (h : lo < hi) (hgain : 256 ≤ fitGain u lo hi ∧ fitGain u lo hi ≤ 16383) :
    fit u lo hi =
      if fitBase u lo (fitGain u lo hi) < -4096 ∨ 4095 < fitBase u lo (fitGain u lo hi) then
        .failed .fitRange ⟨some (lo, hi), some (.base (fitBase u lo (fitGain u lo hi))), none⟩
      else .fitted (fitGain u lo hi) (fitBase u lo (fitGain u lo hi)) := by
  have hin : ¬ (!within 256 16383 (fitGain u lo hi)) = true := by
    rw [(within_iff 256 16383 _).mpr hgain]
    nofun
  rw [fit, if_neg (Nat.not_le.mpr h), if_neg hin]
  simp only [Bool.or_eq_true, decide_eq_true_eq]

/-! ## The codes of the fitted pair -/

theorem driveCode_natCast (base : Int) (depth gain : Nat) :
    driveCode gain base depth = base + ((depth * gain + 512) / 1024 : Nat) := by
  rw [driveCode]
  push_cast
  rfl

/-- The base carries the low depth back to the low code, whatever the gain. -/
theorem driveCode_fitBase_lo (u : CalSetup) (lo gain : Nat) : driveCode gain (fitBase u lo gain) lo = u.codeLo := by
  rw [driveCode_natCast, fitBase]
  omega

/-- The floored gain carries the depth span to at most the code span, so the high depth to at most the high code. -/
theorem driveCode_fit_hi (h : lo < hi) (hcodes : u.codeLo < u.codeHi) :
    driveCode (fitGain u lo hi) (fitBase u lo (fitGain u lo hi)) hi ≤ u.codeHi := by
  have hspan : (hi - lo) * fitGain u lo hi ≤ (u.codeHi - u.codeLo) * 1024 := Nat.mul_div_le _ _
  have hsplit : hi * fitGain u lo hi = lo * fitGain u lo hi + (hi - lo) * fitGain u lo hi := by
    rw [← Nat.add_mul, Nat.add_sub_cancel' h.le]
  rw [driveCode_natCast, fitBase, hsplit]
  omega

end Fit

/-- Settles O53, by the depths, the gain and the base. -/
theorem fitCarriesLowDepthToLowCode : Obligations.FitCarriesLowDepthToLowCode := by
  intro u lo hi hcodes gain base
  refine ⟨fit_order, fun h hgain => fit_gain_range h hgain, fun h hmin hmax hout => ?_,
    fun h hmin hmax hlow hhigh => ⟨?_, driveCode_fitBase_lo u lo gain, driveCode_fit_hi h hcodes⟩⟩
  · exact (fit_of_gain h ⟨hmin, hmax⟩).trans (if_pos hout)
  · exact (fit_of_gain h ⟨hmin, hmax⟩).trans (if_neg (not_or.mpr ⟨not_lt.mpr hlow, not_lt.mpr hhigh⟩))

end Sys2Proof.Machine
end

section
/-! CAL MEASURE (O54). -/

namespace Sys2Proof.Machine

open Sys2Proof.Claims

/-! ## The two readings (R146) -/

theorem distance_eq_natAbs (a b : Nat) : distance a b = ((a : Int) - (b : Int)).natAbs := by
  unfold distance
  omega

theorem not_within_iff (lo hi n : Nat) : (!within lo hi n) = true ↔ n < lo ∨ hi < n := by
  rw [Bool.not_eq_true', within_eq_false]

theorem not_within_toNat (lo hi n : Nat) : (!within lo hi n).toNat = if n < lo ∨ hi < n then 1 else 0 := by
  rw [Bool.toNat, Bool.cond_eq_ite, if_congr (not_within_iff lo hi n) rfl rfl]

/-! ## The level stored, and the fit (R147 to R149) -/

theorem Calibration.store_eq {level : Nat} (hlevel : level ≤ 1) (width : Nat) (c : Calibration) :
    c.store level width =
      { c with
        lowWidth := if level = 0 then some width else c.lowWidth
        highWidth := if level = 1 then some width else c.highWidth } := by
  unfold Calibration.store
  match level, hlevel with
  | 0, _ => rfl
  | 1, _ => rfl

theorem State.updCal_storeLevel (h : Head) {level : Nat} (hlevel : level ≤ 1) (width : Nat) (s : State) :
    s.updCal h (Calibration.store level width) =
      { s with
        cals := s.cals.set h
          { s.cals.get h with
            lowWidth := if level = 0 then some width else (s.cals.get h).lowWidth
            highWidth := if level = 1 then some width else (s.cals.get h).highWidth } } := by
  rw [State.updCal, Calibration.store_eq hlevel]

/-- A fitted pair is proposed and reported, and ends the calibration. -/
theorem State.runFit_of_fitted {h : Head} {u : CalSetup} {low high gain : Nat} {base : Int} {s : State}
    (hfit : fit u (levelDepth u low) (levelDepth u high) = .fitted gain base) :
    s.runFit h u low high =
      calEnded h (State.post
        (.calResult h low high (levelDepth u low) (levelDepth u high) gain base (hcGain u.headcal).toNat
          (hcBase u.headcal))
        { s with cals := s.cals.set h { s.cals.get h with proposal := some ⟨gain, base⟩ } }) := by
  rw [State.runFit, hfit]
  rfl

theorem State.runFit_of_failed {h : Head} {u : CalSetup} {low high : Nat} {cause : CalCause} {detail : CalDetail}
    {s : State} (hfit : fit u (levelDepth u low) (levelDepth u high) = .failed cause detail) :
    s.runFit h u low high = calFailed h cause detail s := by
  rw [State.runFit, hfit]
  exact s.failCal_eq h cause detail

section Stored

variable {h : Head} {u : CalSetup} {level width : Nat} {s : State}

theorem State.measured_of_both {low high : Nat}
    (hlow : ((s.updCal h (Calibration.store level width)).cals.get h).lowWidth = some low)
    (hhigh : ((s.updCal h (Calibration.store level width)).cals.get h).highWidth = some high) :
    s.measured h u level width = (s.updCal h (Calibration.store level width)).runFit h u low high := by
  simp only [State.measured, hlow, hhigh]

theorem State.measured_of_low_missing
    (hlow : ((s.updCal h (Calibration.store level width)).cals.get h).lowWidth = none) :
    s.measured h u level width = s.updCal h (Calibration.store level width) := by
  simp only [State.measured, hlow]

theorem State.measured_of_high_missing
    (hhigh : ((s.updCal h (Calibration.store level width)).cals.get h).highWidth = none) :
    s.measured h u level width = s.updCal h (Calibration.store level width) := by
  cases hlow : ((s.updCal h (Calibration.store level width)).cals.get h).lowWidth <;>
    simp only [State.measured, hlow, hhigh]

end Stored

/-! ## The command -/

theorem field_first (a : Byte) (rest : List Byte) : field (a :: rest) 0 1 = a.toNat := beNat_one a

theorem field_second (a b : Byte) (rest : List Byte) : field (a :: b :: rest) 1 1 = b.toNat := beNat_one b

section Taken

variable {head level a1 a0 b1 b0 : Byte} {s : State}

theorem exec_calMeasure (tag : Half) (hr : s.inReset = false) :
    exec (.calMeasure tag [head, level, a1, a0, b1, b0]) s =
      .next (answerOf 0x41 tag (calMeasure [head, level, a1, a0, b1, b0] s)) :=
  command_answers .calMeasure tag _ _ s hr rfl (fun _ => rfl)

theorem calMeasure_badParam (hbad : 3 < head.toNat ∨ 1 < level.toNat) :
    calMeasure [head, level, a1, a0, b1, b0] s = (s, .badParam, []) := by
  rw [calMeasure, field_first, field_second]
  by_cases habove : 3 < head.toNat
  · rw [headOf_above _ habove]
  · rw [headOf, dif_pos (by omega)]
    exact if_pos (hbad.resolve_left habove)

section Named

variable {h : Head} (hh : head.toNat = h.val) (hlevel : level.toNat ≤ 1)
include hh hlevel

theorem calMeasure_notAwaiting (hphase : ∀ u, (s.cals.get h).phase ≠ .awaitMeasure u) :
    calMeasure [head, level, a1, a0, b1, b0] s = (s, .notAwaiting, []) := by
  rw [calMeasure, field_first, field_second, hh, headOf_val]
  dsimp only
  rw [if_neg (Nat.not_lt.mpr hlevel)]
  cases hp : (s.cals.get h).phase with
  | awaitMeasure u => exact absurd hp (hphase u)
  | none | waitIndex _ | cut _ => rfl

theorem calMeasure_awaiting {u : CalSetup} (hu : (s.cals.get h).phase = .awaitMeasure u) :
    calMeasure [head, level, a1, a0, b1, b0] s = measureLevel [head, level, a1, a0, b1, b0] h u s := by
  rw [calMeasure, field_first, field_second, hh, headOf_val]
  dsimp only
  rw [if_neg (Nat.not_lt.mpr hlevel), hu]

end Named

/-- The readings, taken out of the parameter bytes, are checked against the window and then against each other. -/
theorem measureLevel_eq (h : Head) (u : CalSetup) :
    let wa := a1.toNat * 256 + a0.toNat
    let wb := b1.toNat * 256 + b0.toNat
    let outA := wa < u.wMin ∨ u.wMax < wa
    let outB := wb < u.wMin ∨ u.wMax < wb
    let d := ((wa : Int) - (wb : Int)).natAbs
    measureLevel [head, level, a1, a0, b1, b0] h u s =
      if outA ∨ outB then (s, .outOfWindow, be8 ((if outA then 1 else 0) + (if outB then 2 else 0)))
      else if u.agreeTol < d then (s, .disagree, be16 d)
      else
        (s.measured h u level.toNat ((wa + wb) / 2), .ok,
          be8 level.toNat ++ be16 ((wa + wb) / 2) ++ be16 (levelDepth u ((wa + wb) / 2))) := by
  intro wa wb outA outB d
  have hwa : field [head, level, a1, a0, b1, b0] 2 2 = wa := beNat_two a1 a0
  have hwb : field [head, level, a1, a0, b1, b0] 4 2 = wb := beNat_two b1 b0
  have hd : distance wa wb = d := distance_eq_natAbs wa wb
  have hout : (!within u.wMin u.wMax wa || !within u.wMin u.wMax wb) = true ↔ outA ∨ outB := by
    rw [Bool.or_eq_true, not_within_iff, not_within_iff]
  have hsum : (!within u.wMin u.wMax wa).toNat + 2 * (!within u.wMin u.wMax wb).toNat =
      (if outA then 1 else 0) + (if outB then 2 else 0) := by
    rw [not_within_toNat, not_within_toNat, mul_ite]
  rw [measureLevel]
  simp only [field_second, hwa, hwb, hd, hout, hsum]

end Taken

/-- Settles O54, by the checks in their order and then by the widths held. -/
theorem calMeasureStoresLevelAndFits : Obligations.CalMeasureStoresLevelAndFits := by
  intro tag head level a1 a0 b1 b0 s hr params wa wb
  rw [exec_calMeasure tag hr]
  refine ⟨fun hbad => ?_, fun h hh hlevel => ⟨fun hphase => ?_, fun u hu => ?_⟩⟩
  · rw [calMeasure_badParam hbad, answerOf_mk]
  · rw [calMeasure_notAwaiting hh hlevel hphase, answerOf_mk]
  intro outA outB d
  rw [calMeasure_awaiting hh hlevel hu, measureLevel_eq]
  refine ⟨fun hout => ?_, fun hinA hinB hfar => ?_, fun hinA hinB hnear => ?_⟩
  · rw [if_pos hout, answerOf_mk]
  · rw [if_neg (not_or.mpr ⟨hinA, hinB⟩), if_pos hfar, answerOf_mk]
  intro w depth c low high stored
  rw [if_neg (not_or.mpr ⟨hinA, hinB⟩), if_neg (Nat.not_lt.mpr hnear), answerOf_mk]
  refine congrArg _ (congrArg (answer 0x41 tag .ok _) ?_)
  have hstored : s.updCal h (Calibration.store level.toNat w) = stored := State.updCal_storeLevel h hlevel w s
  have hlow : ((s.updCal h (Calibration.store level.toNat w)).cals.get h).lowWidth = low := by
    rw [hstored, PerHead.get_set_same]
  have hhigh : ((s.updCal h (Calibration.store level.toNat w)).cals.get h).highWidth = high := by
    rw [hstored, PerHead.get_set_same]
  clear_value low high stored
  cases low with
  | none => exact (State.measured_of_low_missing hlow).trans hstored
  | some l =>
    cases high with
    | none => exact (State.measured_of_high_missing hhigh).trans hstored
    | some g =>
      rw [State.measured_of_both hlow hhigh, hstored]
      dsimp only
      cases hfit : fit u (depth l) (depth g) with
      | fitted gain base => exact State.runFit_of_fitted hfit
      | failed cause detail => exact State.runFit_of_failed hfit

end Sys2Proof.Machine
end

section
/-! The shedding order and the demand of a track (O55). -/

namespace Sys2Proof.Machine

open Sys2Proof.Claims

/-! ## The order of removal (R161) -/

/-- A head the shedding order removes before another: the higher priority number, and among equals the higher head
number. -/
def RemovedFirst (priority : Head → Nat) (g h : Head) : Prop :=
  priority h < priority g ∨ (priority h = priority g ∧ h.val < g.val)

theorem removedBefore_iff (priority : Head → Nat) (g h : Head) :
    removedBefore priority g h = true ↔ RemovedFirst priority g h := by
  rw [removedBefore, Bool.or_eq_true, Bool.and_eq_true, decide_eq_true_eq, decide_eq_true_eq, beq_iff_eq,
    eq_comm (a := priority g)]
  rfl

theorem RemovedFirst.trans {priority : Head → Nat} {f g h : Head} (hfg : RemovedFirst priority f g)
    (hgh : RemovedFirst priority g h) : RemovedFirst priority f h := by
  unfold RemovedFirst at *
  omega

theorem RemovedFirst.ne {priority : Head → Nat} {g h : Head} (hgh : RemovedFirst priority g h) : g ≠ h := by
  rintro rfl
  unfold RemovedFirst at hgh
  omega

/-- Of two heads one is removed before the other. -/
theorem removedFirst_of_not {priority : Head → Nat} {g h : Head} (hgh : ¬ RemovedFirst priority g h) (hne : h ≠ g) :
    RemovedFirst priority h g := by
  have hval : h.val ≠ g.val := fun hv => hne (Fin.ext hv)
  unfold RemovedFirst at *
  omega

theorem insertHead_pairwise {priority : Head → Nat} {a : Head} {heads : List Head}
    (hheads : heads.Pairwise (RemovedFirst priority)) (ha : a ∉ heads) :
    (insertHead priority a heads).Pairwise (RemovedFirst priority) := by
  induction heads with
  | nil => exact List.pairwise_singleton _ a
  | cons b rest ih =>
    obtain ⟨hb, hrest⟩ := List.pairwise_cons.mp hheads
    obtain ⟨hab, harest⟩ := not_or.mp (fun h => ha (List.mem_cons.mpr h))
    rw [insertHead]
    split
    · rename_i hbefore
      rw [removedBefore_iff] at hbefore
      exact List.pairwise_cons.mpr
        ⟨List.forall_mem_cons.mpr ⟨hbefore, fun c hc => hbefore.trans (hb c hc)⟩, hheads⟩
    · rename_i hbefore
      rw [removedBefore_iff] at hbefore
      refine List.pairwise_cons.mpr ⟨fun c hc => ?_, ih hrest harest⟩
      rcases (mem_insertHead priority a c rest).mp hc with rfl | hc
      · exact removedFirst_of_not hbefore (Ne.symm hab)
      · exact hb c hc

/-- The heads of a set stand in the order of their removal. -/
theorem removalOrder_pairwise (priority : Head → Nat) (members : Head → Bool) :
    (removalOrder priority members).Pairwise (RemovedFirst priority) := by
  have hfold : ∀ heads : List Head, heads.Nodup →
      (heads.foldr (insertHead priority) []).Pairwise (RemovedFirst priority) := by
    intro heads hnodup
    induction heads with
    | nil => exact List.Pairwise.nil
    | cons a rest ih =>
      obtain ⟨ha, hrest⟩ := List.nodup_cons.mp hnodup
      exact insertHead_pairwise (ih hrest) (fun hmem => ha ((insertHeads_perm priority rest).mem_iff.mp hmem))
  exact hfold _ (List.Nodup.filter _ (by decide))

theorem sumDemands_cons (demand : Head → Nat) (h : Head) (heads : List Head) :
    sumDemands demand (h :: heads) = demand h + sumDemands demand heads := List.sum_cons

theorem sumDemands_perm (demand : Head → Nat) {heads others : List Head} (h : heads.Perm others) :
    sumDemands demand heads = sumDemands demand others := (h.map demand).sum_eq

/-! ## The walk along the order -/

section Walk

variable {demand : Head → Nat} {budget : Nat}

/-- The removed heads are the first ones of the order, and the demands of the others fit. -/
theorem shedWalk_kept (heads : List Head) (sum rank : Nat) (hsum : sum = sumDemands demand heads) :
    ∃ kept, heads = (shedWalk demand budget sum rank heads).map Shed.head ++ kept ∧
      sumDemands demand kept ≤ budget := by
  induction heads generalizing sum rank with
  | nil => exact ⟨[], rfl, Nat.zero_le _⟩
  | cons h rest ih =>
    rw [shedWalk]
    split
    · exact ⟨h :: rest, rfl, hsum ▸ ‹_›⟩
    · have hrest : sum - demand h = sumDemands demand rest := by
        rw [hsum, sumDemands_cons]
        omega
      obtain ⟨kept, hkept, hfits⟩ := ih (sum - demand h) (rank + 1) hrest
      exact ⟨kept, congrArg (h :: ·) hkept, hfits⟩

/-- Every removal with its rank, its demand and the sum left after it, made while the sum exceeds the budget. -/
theorem shedWalk_getElem (heads : List Head) (sum rank : Nat) (hsum : sum = sumDemands demand heads) (i : Nat)
    (hi : i < (shedWalk demand budget sum rank heads).length) :
    let sheds := shedWalk demand budget sum rank heads
    sheds[i].rank = rank + i ∧ sheds[i].demand = demand sheds[i].head ∧
      sheds[i].left + ((sheds.take (i + 1)).map Shed.demand).sum = sum ∧ budget < sheds[i].left + sheds[i].demand := by
  induction heads generalizing sum rank i with
  | nil => cases hi
  | cons h rest ih =>
    rw [sumDemands_cons] at hsum
    by_cases hfits : sum ≤ budget
    · rw [shedWalk, if_pos hfits] at hi
      cases hi
    · simp only [shedWalk, if_neg hfits] at hi ⊢
      cases i with
      | zero =>
        refine ⟨rfl, rfl, ?_, ?_⟩
        · show sum - demand h + ([demand h] : List Nat).sum = sum
          rw [List.sum_singleton]
          omega
        · show budget < sum - demand h + demand h
          omega
      | succ j =>
        obtain ⟨hrank, hdemand, hleft, hover⟩ :=
          ih (sum - demand h) (rank + 1) (by omega) j (Nat.lt_of_succ_lt_succ hi)
        refine ⟨?_, hdemand, ?_, hover⟩
        · rw [List.getElem_cons_succ, hrank]
          omega
        · rw [List.getElem_cons_succ, List.take_succ_cons, List.map_cons, List.sum_cons, Nat.add_left_comm, hleft]
          exact Nat.add_sub_cancel' (hsum ▸ Nat.le_add_right _ _)

end Walk

/-! ## The statement -/

theorem isShed_iff (sheds : List Shed) (h : Head) : isShed sheds h = true ↔ h ∈ sheds.map Shed.head := by
  simp [isShed, shedOf, List.mem_map]

section Order

variable (priority demand : Head → Nat) (members : Head → Bool) (budget : Nat)

theorem sumDemands_removalOrder :
    sumDemands demand (allHeads.filter members) = sumDemands demand (removalOrder priority members) :=
  sumDemands_perm demand (insertHeads_perm priority _).symm

/-- The order of removal is the removed heads and then the kept ones, whose demands fit. -/
theorem shedOrder_kept : ∃ kept,
    removalOrder priority members = (shedOrder priority demand members budget).map Shed.head ++ kept ∧
      sumDemands demand kept ≤ budget :=
  shedWalk_kept _ _ _ (sumDemands_removalOrder priority demand members)

/-- The demands of the heads of a set that are not removed fit the budget. -/
theorem shedOrder_fits :
    sumDemands demand
      (allHeads.filter (fun h => members h && !isShed (shedOrder priority demand members budget) h)) ≤ budget := by
  obtain ⟨kept, horder, hfits⟩ := shedOrder_kept priority demand members budget
  have hapart := removalOrder_pairwise priority members
  rw [horder, List.pairwise_append] at hapart
  obtain ⟨-, -, hapart⟩ := hapart
  have hkept : (removalOrder priority members).filter
      (fun h => !isShed (shedOrder priority demand members budget) h) = kept := by
    rw [horder, List.filter_append, List.filter_eq_nil_iff.mpr, List.nil_append, List.filter_eq_self]
    · intro h hh
      rw [Bool.not_eq_true', Bool.eq_false_iff, ne_eq, isShed_iff]
      exact fun hs => (hapart h hs h hh).ne rfl
    · intro h hh
      simp [(isShed_iff _ h).mpr hh]
  have hperm := (insertHeads_perm priority (allHeads.filter members)).filter
    (fun h => !isShed (shedOrder priority demand members budget) h)
  rw [List.filter_filter] at hperm
  rw [← funext fun h => Bool.and_comm _ (members h), ← sumDemands_perm demand hperm]
  exact hkept ▸ hfits

end Order

theorem sheddingRemovesLowestPriorityFirst : SheddingRemovesLowestPriorityFirst := by
  intro priority demand members budget sheds total
  obtain ⟨kept, horder, -⟩ := shedOrder_kept priority demand members budget
  have hordered := removalOrder_pairwise priority members
  rw [horder, List.pairwise_append] at hordered
  obtain ⟨hremoved, -, hbefore⟩ := hordered
  refine ⟨fun h => member_of_isShed, fun g h hg hh hnot => ?_, hremoved, fun i hi => ?_,
    shedOrder_fits priority demand members budget⟩
  · refine hbefore g ((isShed_iff _ g).mp hg) h ?_
    have hmem := (mem_removalOrder priority members h).mpr hh
    rw [horder, List.mem_append, ← isShed_iff] at hmem
    exact hmem.resolve_left (Bool.eq_false_iff.mp hnot)
  · obtain ⟨hrank, hrest⟩ :=
      shedWalk_getElem _ _ _ (sumDemands_removalOrder priority demand members) i hi
    exact ⟨hrank.trans (Nat.add_comm 1 i), hrest⟩

theorem trackDemandIsAtMostWorstCase : TrackDemandIsAtMostWorstCase := by
  intro hc mean hmean
  refine ⟨rfl, Nat.add_le_add_left ?_ _, ?_, ?_⟩
  · exact Nat.div_le_of_le_mul (Nat.mul_le_mul_right _ hmean)
  · rw [trackDemand, worstDemand, Nat.mul_div_cancel_left _ (by decide)]
  · rw [trackDemand, Nat.zero_mul, Nat.zero_div, Nat.add_zero]

/-- Settles O55, by the walk of the shedding along its order of removal. -/
theorem sheddingOrderAndTrackDemand : Obligations.SheddingOrderAndTrackDemand :=
  ⟨sheddingRemovesLowestPriorityFirst, trackDemandIsAtMostWorstCase⟩

end Sys2Proof.Machine
end

section
/-! SUPPORT. What the shared operations keep of the summed demand and its budget (O57). -/

namespace Sys2Proof.Machine

/-! ## The summed demand -/

theorem sumDemands_mono {d e : Head → Nat} (h : ∀ k, d k ≤ e k) (heads : List Head) :
    sumDemands d heads ≤ sumDemands e heads := by
  induction heads with
  | nil => exact Nat.le_refl _
  | cons k rest ih =>
    rw [sumDemands_cons, sumDemands_cons]
    exact Nat.add_le_add (h k) ih

/-- Demands that only the heads of a set have sum to no more than that set's. -/
theorem sumDemands_le_filter {d e : Head → Nat} {p : Head → Bool} (h : ∀ k, d k ≤ if p k then e k else 0)
    (heads : List Head) : sumDemands d heads ≤ sumDemands e (heads.filter p) := by
  induction heads with
  | nil => exact Nat.le_refl _
  | cons k rest ih =>
    have hk := h k
    rw [sumDemands_cons, List.filter_cons]
    split at hk
    · rw [if_pos ‹_›, sumDemands_cons]
      exact Nat.add_le_add hk ih
    · rw [if_neg ‹_›]
      omega

/-- The summed demand is read from the demands, the selected bank and the tables alone. -/
theorem State.WithinBudget.congr {s t : State} (hs : s.WithinBudget) (hstore : t.store = s.store)
    (hdbu : t.dbu = s.dbu) : t.WithinBudget := by
  rw [State.WithinBudget, State.summedDemand, State.budgetOf, hstore, hdbu]
  exact hs

/-- A part without a demand is within every budget. -/
theorem State.WithinBudget.of_idle {s : State} (hidle : ∀ h, s.dbu.demand.get h = 0) : s.WithinBudget := by
  have hzero : s.dbu.demand.get = fun _ => 0 := funext hidle
  rw [State.WithinBudget, State.summedDemand, hzero]
  exact Nat.zero_le _

/-- Outside RUNNING and STOPPING no head has a demand. -/
theorem JobView.Sound.idle_of_resting {v : JobView} (hv : v.Sound) (hj : jobCutting v.state = false) (h : Head) :
    (v.seat h).demand = 0 := by
  refine (hv.seats h).demand (Bool.eq_false_iff.mpr fun ht => ?_)
  rw [(jobCutting_iff _).mpr (hv.running_of_cutting ((hv.seats h).tracked ht))] at hj
  cases hj

theorem State.WithinBudget.of_resting {s : State} (hs : s.jobView.Coherent) (hj : jobCutting s.job.state = false) :
    s.WithinBudget :=
  .of_idle (hs.sound.idle_of_resting hj)

/-! ## Departures, aborts and calibrations -/

theorem State.depart_withinBudget (h : Head) (st : ChannelState) (cause : StopCause) (s : State)
    (hs : s.WithinBudget) : (s.depart h st cause).WithinBudget := by
  refine Nat.le_trans (sumDemands_mono (fun k => ?_) allHeads) hs
  rw [State.depart_dbu, PerHead.get_set]
  split
  · exact Nat.zero_le _
  · exact Nat.le_refl _

theorem State.leaveJob_withinBudget (h : Head) (st : ChannelState) (cause : StopCause) (s : State)
    (hs : s.WithinBudget) : (s.leaveJob h st cause).WithinBudget :=
  (s.depart_withinBudget h st cause hs).congr (by simp) (by simp [State.leaveJob_dbu])

theorem State.abortJob_withinBudget (cause : StopCause) (s : State) (hs : s.WithinBudget) :
    (s.abortJob cause).WithinBudget := by
  unfold State.abortJob
  split
  · have hhalted := forHeads_keeps State.WithinBudget (State.haltIfActive cause) (fun h u hu => by
      unfold State.haltIfActive
      split
      · exact u.depart_withinBudget h _ cause hu
      · exact hu) { s with job := { s.job with state := .aborted, result := none, abortCause := some cause } } hs
    exact hhalted.congr (by simp) (by simp)
  · exact hs

theorem State.abortIfCutting_withinBudget (cause : StopCause) (s : State) (hs : s.WithinBudget) :
    (s.abortIfCutting cause).WithinBudget := by
  unfold State.abortIfCutting
  split
  · exact s.abortJob_withinBudget cause hs
  · exact hs

theorem State.failAllCals_withinBudget (cause : CalCause) (s : State) (hs : s.WithinBudget) :
    (s.failAllCals cause).WithinBudget :=
  hs.congr (by simp) (by simp)

theorem State.actFault_withinBudget (h : Head) (fault : StylusFault) (action : FaultAction) (s : State)
    (hs : s.WithinBudget) : (s.actFault h fault action).WithinBudget := by
  cases action with
  | none => exact hs
  | parked => exact s.leaveJob_withinBudget h _ _ hs
  | aborted => exact s.abortJob_withinBudget _ hs
  | calibrationFailed => exact hs.congr (by simp [State.actFault]) (by simp [State.actFault])

theorem State.actFeedFault_withinBudget (s : State) (hs : s.WithinBudget) : s.actFeedFault.WithinBudget := by
  unfold State.actFeedFault
  split
  · exact s.abortIfCutting_withinBudget _ hs
  · exact hs

/-! ## Sheds -/

/-- The sheds leave the selected bank and the candidates. -/
theorem State.shedAll_bank (o : ShedOccasion) (budget before : Nat) (sheds : List Shed) (s : State) :
    (s.shedAll o budget before sheds).dbu.bank = s.dbu.bank ∧
      (s.shedAll o budget before sheds).dbu.candidates = s.dbu.candidates := by
  have hkept := forHeads_view (fun u : State => (u.dbu.bank, u.dbu.candidates))
    (State.shedIfRemoved o budget before sheds) (fun h u => by
      unfold State.shedIfRemoved
      split
      · simp only [State.shedHead, State.leaveJob_dbu, State.post_dbu]
      · rfl) s
  rw [Prod.mk.injEq] at hkept
  exact hkept

/-- The demands after the sheds of a result. -/
theorem State.shedAll_demand (o : ShedOccasion) (budget before : Nat) (sheds : List Shed) (s : State) (h : Head) :
    (s.shedAll o budget before sheds).dbu.demand.get h = if isShed sheds h then 0 else s.dbu.demand.get h := by
  have hseat := congrArg (fun v => v.2.2) (s.shedAll_seat o budget before sheds h)
  refine hseat.trans ?_
  split <;> rfl

/-- A bank change sheds until the tracks in progress fit the budget of the new bank (R163). -/
theorem State.changeBank_withinBudget (bank : BitVec 3) (s : State) (hs : s.jobView.Sound) :
    (s.changeBank bank).WithinBudget := by
  have hbank : (s.changeBank bank).dbu.bank = bank := (State.shedAll_bank _ _ _ _ _).1
  have hbudget : State.budgetOf bank (s.changeBank bank) = s.budgetOf bank := by simp [State.budgetOf]
  rw [State.WithinBudget, hbank, hbudget]
  refine Nat.le_trans (sumDemands_le_filter (fun h => ?_) allHeads)
    (shedOrder_fits (fun h => s.priority h) s.dbu.demand.get (fun h => s.cuttingTrack h) (s.budgetOf bank))
  have hdemand : (s.changeBank bank).dbu.demand.get h =
      if isShed (s.bankSheds bank) h then 0 else s.dbu.demand.get h := State.shedAll_demand _ _ _ _ _ h
  rw [hdemand]
  cases htrack : (s.queues.get h).inProgress.isSome with
  | true =>
    have hcut : s.channelState h = .cutting := (hs.seats h).tracked htrack
    have hmember : s.cuttingTrack h = true := by rw [State.cuttingTrack, htrack, hcut]; rfl
    rw [← State.bankSheds, hmember, Bool.true_and]
    cases isShed (s.bankSheds bank) h <;> exact Nat.le_refl _
  | false =>
    have hidle : s.dbu.demand.get h = 0 := (hs.seats h).demand htrack
    rw [hidle, ite_self]
    exact Nat.zero_le _

end Sys2Proof.Machine
end

section
/-! SUPPORT. Counts, revolution boundaries and samples keep the summed demand within the budget (O57). -/

namespace Sys2Proof.Machine

/-! ## Forward counts and samples -/

theorem State.countHead_withinBudget (angle : Nat) (h : Head) (s : State) (hs : s.WithinBudget) :
    (s.countHead angle h).WithinBudget :=
  hs.congr (by simp) (by simp)

theorem State.countThenAct_withinBudget (angle : Nat) (h : Head) (s : State) (hs : s.WithinBudget) :
    (s.countThenAct angle h).WithinBudget := by
  have hcount := s.countHead_withinBudget angle h hs
  unfold State.countThenAct
  split
  · exact State.actFault_withinBudget h _ _ _ hcount
  · exact hcount

theorem State.countThenPark_withinBudget (angle : Nat) (h : Head) (s : State) (hs : s.WithinBudget) :
    (s.countThenPark angle h).WithinBudget := by
  have hcount := s.countHead_withinBudget angle h hs
  unfold State.countThenPark
  split
  · exact State.actFault_withinBudget h _ _ _ hcount
  · exact hcount

theorem State.countAll_withinBudget (angle : Nat) (s : State) (hs : s.WithinBudget) :
    (s.countAll angle).WithinBudget := by
  have hact := forHeads_keeps State.WithinBudget _ (State.countThenAct_withinBudget angle)
  have hpark := forHeads_keeps State.WithinBudget _ (State.countThenPark_withinBudget angle)
  unfold State.countAll
  dsimp only
  split
  · split
    · exact hact { s with choices := s.choices + 1 } hs
    · refine forHeads_keeps State.WithinBudget _ (fun h u hu => ?_) _ (hpark { s with choices := s.choices + 1 } hs)
      split
      · exact State.actFault_withinBudget h _ _ u hu
      · exact hu
  · exact hact s hs

theorem State.lineCount_withinBudget (t : TimingSettings) (s : State) (hs : s.WithinBudget) :
    (s.lineCount t).WithinBudget :=
  State.countAll_withinBudget _ { s with ctu := { s.ctu with angle := nextAngle t s.ctu.angle } } hs

theorem State.classified_withinBudget (h : Head) (p : MonitorParams) (e : HistoryEntry) (value : Nat) (s : State)
    (hs : s.WithinBudget) : (s.classified h p e value).WithinBudget := by
  unfold State.classified
  dsimp only
  split
  · refine State.actFault_withinBudget h _ _ _ ?_
    split <;> exact hs
  · split <;> exact hs

theorem State.sample_withinBudget (h : Head) (value : Nat) (tag : BitVec 8) (s : State) (hs : s.WithinBudget) :
    (s.sample h value tag).WithinBudget := by
  unfold State.sample
  split
  · exact hs
  split
  · exact hs
  dsimp only
  split
  · exact State.classified_withinBudget h _ _ value (s.updMonitor h (Monitor.pair tag)) hs
  · exact hs

/-! ## The decision -/

/-- The demand of a head after the start of its track, when it had none before. -/
theorem StartView.start_demand_le (demand : Nat) (v : StartView) (hidle : v.demand = 0) :
    (v.start demand).demand ≤ if activeState v.channel.state then demand else 0 := by
  unfold StartView.start
  split
  · split
    · exact Nat.le_refl _
    · exact hidle ▸ Nat.zero_le _
  · exact Nat.le_of_eq hidle

/-- A channel active after the sheds of a GO was active before them and is none of the removed. -/
theorem State.active_of_goShed {s : State} {h : Head} (ha : s.goShed.active h = true) :
    s.active h = true ∧ isShed s.goSheds h = false := by
  refine ⟨(s.shedAll_active _ _ _ _ h ha).1, Bool.eq_false_iff.mpr fun hs => ?_⟩
  have hseat : s.goShed.seat h = shedSeat (s.seat h) := by rw [State.goShed, State.shedAll_seat, if_pos hs]
  cases ha.symm.trans (State.active_of_seat hseat)

theorem State.go_dbu (s : State) : s.go.dbu = (s.goShed.startAll (fun h => s.nextDemand h)).dbu := by
  unfold State.go State.goShed
  rfl

/-- A GO sheds until the tracks about to start fit the budget, and starts no other (R162). -/
theorem State.go_withinBudget (s : State) (hidle : ∀ h, s.dbu.demand.get h = 0) : s.go.WithinBudget := by
  have hbank : s.go.dbu.bank = s.dbu.bank := by
    rw [State.go_dbu, State.startAll_dbu, State.goShed]
    exact (State.shedAll_bank _ _ _ _ s).1
  have hbudget : s.go.budgetOf s.dbu.bank = s.budgetOf s.dbu.bank := by simp [State.budgetOf]
  rw [State.WithinBudget, hbank, hbudget, State.summedDemand, State.go_dbu]
  refine Nat.le_trans (sumDemands_le_filter (fun h => ?_) allHeads)
    (shedOrder_fits (fun h => s.priority h) (fun h => s.nextDemand h) (fun h => s.active h) (s.budgetOf s.dbu.bank))
  have hshed : s.goShed.dbu.demand.get h = 0 := by
    rw [State.goShed, State.shedAll_demand, hidle, ite_self]
  have hstart := StartView.start_demand_le (s.nextDemand h) (s.goShed.startView h) hshed
  rw [← s.goShed.startAll_startView (fun h => s.nextDemand h) h] at hstart
  refine Nat.le_trans hstart ?_
  split
  · rename_i hstays
    obtain ⟨hactive, hkept⟩ := State.active_of_goShed hstays
    rw [if_pos (by rw [hactive, ← State.goSheds, hkept]; rfl)]
  · exact Nat.zero_le _

/-- A HOLD changes no demand but by its abort. -/
theorem State.hold_withinBudget (s : State) (hs : s.WithinBudget) : s.hold.WithinBudget := by
  have hwait := forHeads_keeps State.WithinBudget State.waitHead (fun h u hu => hu.congr (by simp) (by simp))
    { s with ctu := { s.ctu with feedEn := false } } hs
  have hheld : ∀ (e : Event) (count total : Nat), (s.held e count total).WithinBudget := fun _ _ _ =>
    hwait.congr (by simp [State.held]) (by simp [State.held])
  by_cases hlimit : s.ctu.holdCount = s.holdLimit
  · rw [s.hold_of_limit hlimit]
    exact State.abortJob_withinBudget _ _ (hheld _ _ _)
  · rw [s.hold_of_below hlimit]
    exact hheld _ _ _

theorem State.decideRevolution_withinBudget (s : State) (hidle : ∀ h, s.dbu.demand.get h = 0) :
    s.decideRevolution.WithinBudget := by
  unfold State.decideRevolution
  split
  · split
    · exact s.go_withinBudget hidle
    · exact s.hold_withinBudget (.of_idle hidle)
  · exact .of_idle hidle

/-! ## The boundary -/

/-- A boundary is within the budget whatever came before: its retirements leave no demand, and its GO none above the
budget. -/
theorem State.boundary_withinBudget (t : TimingSettings) (time : Nat) (slip : Option Int) (s : State)
    (hq : s.QueuesShaped) (hs : s.jobView.Coherent) : (s.boundary t time slip).WithinBudget := by
  obtain ⟨hview, hqueues⟩ := periodNoted_jobView t time slip s
  obtain ⟨hsound, huntracked, -⟩ := State.boundaryBlocks_sound (slipped t slip)
    (Claims.periodNoted t time (Claims.slipNoted t.slipTolerance slip s))
    (fun h => by rw [hqueues]; exact hq h) (hview ▸ hs)
  rw [← served_eq] at hsound huntracked
  have hidle : ∀ h, (Claims.served t time slip s).dbu.demand.get h = 0 := fun h =>
    (hsound.seats h).demand (huntracked h)
  rw [State.boundary_eq]
  split
  · exact State.abortJob_withinBudget _ _ (.of_idle hidle)
  · exact State.decideRevolution_withinBudget _ hidle

theorem State.forwardCount_withinBudget (time : Nat) (s : State) (hq : s.QueuesShaped) (hs : s.jobView.Coherent)
    (hb : s.WithinBudget) : (s.forwardCount time).WithinBudget := by
  have hboundary : ∀ (t : TimingSettings) (u : State), u.QueuesShaped → u.jobView.Coherent →
      (u.boundary t time none).WithinBudget := fun t u => u.boundary_withinBudget t time none
  unfold State.forwardCount
  split
  · exact hb
  split
  · exact s.lineCount_withinBudget _ hb
  · unfold State.countCount
    split
    · exact hboundary _ _ hq hs
    · exact s.lineCount_withinBudget _ hb
  · unfold State.autoStep
    split
    · exact hboundary _ _ hq hs
    · exact State.lineCount_withinBudget _ { s with ctu := { s.ctu with autoCount := s.ctu.autoCount + 1 } } hb

theorem State.indexPulse_withinBudget (time : Nat) (s : State) (hq : s.QueuesShaped) (hs : s.jobView.Coherent)
    (hb : s.WithinBudget) : (s.indexPulse time).WithinBudget := by
  have hboundary : ∀ (t : TimingSettings) (slip : Option Int) (u : State), u.QueuesShaped → u.jobView.Coherent →
      (u.boundary t time slip).WithinBudget := fun t slip u => u.boundary_withinBudget t time slip
  unfold State.indexPulse
  split
  · exact hb
  split
  · exact hboundary _ _ _ hq hs
  · exact hb
  · exact hboundary _ _ _ hq hs

theorem State.reverseCount_withinBudget (s : State) (hs : s.WithinBudget) : s.reverseCount.WithinBudget := by
  unfold State.reverseCount
  split
  · exact hs
  · exact State.failAllCals_withinBudget _ _ (State.abortIfCutting_withinBudget _ (State.post _ _) hs)

theorem State.stallExpiry_withinBudget (s : State) (hs : s.WithinBudget) : s.stallExpiry.WithinBudget := by
  unfold State.stallExpiry
  split
  · exact hs
  split
  · exact State.failAllCals_withinBudget _ _ (State.abortIfCutting_withinBudget _ (State.post _ _) hs)
  · exact hs

theorem State.estopChange_withinBudget (level : Bool) (s : State) (hs : s.WithinBudget) :
    (s.estopChange level).WithinBudget := by
  unfold State.estopChange
  split
  · exact hs
  · exact State.failAllCals_withinBudget _ _ (State.abortJob_withinBudget _ (s.post _) hs)

end Sys2Proof.Machine
end

section
/-! The summed demand stays within the budget of the selected bank, and the held reset has no job (O57). -/

namespace Sys2Proof.Machine

open Sys2Proof.Claims

/-! ## The held reset -/

/-- A part held in reset ignores every row but those of the lines. -/
theorem exec_of_held (c : Instr) (hc : movesLine c = false) (s : State) (hr : s.inReset = true) :
    exec c s = .next s := by
  cases c with
  | estop _ | feedFault _ | bankChange _ | resetNAssert | resetNRelease | powerOn | powerOnRelease | supplyFall =>
    cases hc
  | _ => exact if_pos hr

/-- Of the rows of the lines only those of the full reset hold a part in reset. -/
theorem exec_line_inReset (c : Instr) (hc : rowClass c = .line) (s t : State) (h : exec c s = .next t)
    (ht : t.inReset = true) : s.inReset = true := by
  have hserve : ∀ {f : State → State} {u : State}, u.inReset = s.inReset → (f u).lines = u.lines →
      serve f u = .next t → s.inReset = true := fun {f u} hu hf hserve => by
    have hkept := serve_keeps (fun v : State => v.inReset = s.inReset) (fun _ hv => hv) hu
      (show (f u).inReset = s.inReset by rw [← hu, State.inReset, State.inReset, hf]) hserve
    exact hkept ▸ ht
  cases c with
  | estop level =>
    replace h : execEstop level s = .next t := h
    unfold execEstop at h
    split at h
    · assumption
    split at h
    · cases h
      exact ht
    · exact hserve (u := { s with lines := { s.lines with estopN := level } }) rfl (by simp) h
  | feedFault level =>
    exact hserve (u := { s with lines := { s.lines with feedFault := level } }) rfl (by simp) h
  | bankChange bank =>
    replace h : execBankChange bank s = .next t := h
    unfold execBankChange at h
    split at h
    · assumption
    split at h
    · cases h
      exact ht
    · exact hserve (u := { s with lines := { s.lines with ps := bank } }) rfl (by simp) h
  | resetNRelease =>
    replace h : execResetNRelease s = .next t := h
    unfold execResetNRelease at h
    split at h
    · cases h
      exact ht
    · simp [State.inReset, *]
  | powerOnRelease =>
    replace h : execPowerOnRelease s = .next t := h
    unfold execPowerOnRelease at h
    split at h
    · simp [State.inReset, *]
    · cases h
      exact ht
  | _ => cases hc

theorem exec_full_setup (c : Instr) (hc : rowClass c = .full) (s t : State) (h : exec c s = .next t) :
    t.job.state = .setup := by
  cases c with
  | resetNAssert | powerOn | supplyFall =>
    cases h
    rfl
  | _ => cases hc

theorem exec_heldClear (c : Instr) (s t : State) (hs : s.HeldClear) (h : exec c s = .next t) : t.HeldClear := by
  intro ht
  cases hr : rowClass c with
  | full => exact exec_full_setup c hr s t h
  | line =>
    have hsettled := (exec_line c hr s t h).settled
    exact (setup_of_standing (State.standing_of_settled hsettled)).mpr (hs (exec_line_inReset c hr s t h ht))
  | quiet | setting | table | job | count | feed =>
    have hc : movesLine c = false := by rw [movesLine_eq, hr]; rfl
    have hheld : s.inReset = true := by
      rw [← ht, State.inReset, State.inReset, exec_lines c hc s t h]
    rw [exec_of_held c hc s hheld] at h
    cases h
    exact hs hheld

theorem heldResetKeepsJobInSetup : HeldResetKeepsJobInSetup := by
  intro s t hs h
  rcases step_cases s t h with rfl | ⟨c, rest, -, h⟩
  · exact hs
  · exact exec_heldClear c { s with pending := rest } t hs h

/-! ## Events and commands -/

theorem serve_withinBudget {f : State → State} {s t : State} (hs : s.WithinBudget) (hf : (f s).WithinBudget)
    (h : serve f s = .next t) : t.WithinBudget :=
  serve_keeps State.WithinBudget (fun _ hu => hu) hs hf h

theorem command_withinBudget {c : CommandName} {tag : Half} {p : List Byte} {body : State → Answer} {s t : State}
    (hs : s.WithinBudget) (hb : commandAvailable c s.job.state = true → (body s).1.WithinBudget)
    (h : command c tag p body s = .next t) : t.WithinBudget :=
  command_keeps State.WithinBudget (fun _ _ hu => hu) hs hb h

theorem start_withinBudget (s : State) (hs : s.WithinBudget) : (start s).1.WithinBudget := by
  unfold start
  split
  · exact hs
  split
  · exact hs
  · exact State.actFeedFault_withinBudget _ hs

theorem headPark_withinBudget (p : List Byte) (s : State) (hs : s.WithinBudget) :
    (headPark p s).1.WithinBudget := by
  unfold headPark
  split
  · exact hs
  split
  · exact s.leaveJob_withinBudget _ _ _ hs
  · exact hs

/-! ## Commands that leave the Drive Budget Unit -/

theorem trackDiscard_dbu (p : List Byte) (s : State) : (trackDiscard p s).1.dbu = s.dbu := by
  unfold trackDiscard
  split
  · rfl
  · split <;> rfl

theorem calibrate_dbu (p : List Byte) (s : State) : (calibrate p s).1.dbu = s.dbu := by
  unfold calibrate
  split
  · rfl
  · rfl
  · split <;> rfl

theorem calMeasure_dbu (p : List Byte) (s : State) : (calMeasure p s).1.dbu = s.dbu := by
  unfold calMeasure
  split
  · rfl
  split
  · rfl
  split
  case h_4 =>
    unfold measureLevel
    dsimp only
    split
    · rfl
    · split
      · rfl
      · simp
  all_goals rfl

theorem calCancel_dbu (p : List Byte) (s : State) : (calCancel p s).1.dbu = s.dbu := by
  unfold calCancel
  split
  · rfl
  · split <;> rfl

theorem noticeSkip_dbu (p : List Byte) (s : State) : (noticeSkip p s).1.dbu = s.dbu := by
  unfold noticeSkip
  split <;> rfl

theorem countersRead_dbu (p : List Byte) (s : State) : (countersRead p s).1.dbu = s.dbu := by
  rw [countersRead_same]

theorem countersClear_dbu (p : List Byte) (s : State) : (countersClear p s).1.dbu = s.dbu := by
  unfold countersClear
  split <;> rfl

theorem timingSet_dbu (p : List Byte) (s : State) : (timingSet p s).1.dbu = s.dbu := by
  unfold timingSet
  split
  · rfl
  · split <;> rfl

theorem jobDefine_dbu (p : List Byte) (s : State) : (jobDefine p s).1.dbu = s.dbu := by
  unfold jobDefine
  split <;> rfl

theorem noticeMask_dbu (p : List Byte) (s : State) : (noticeMask p s).1.dbu = s.dbu := by
  unfold noticeMask
  split <;> rfl

theorem stylusWear_dbu (p : List Byte) (s : State) : (stylusWear p s).1.dbu = s.dbu := by
  unfold stylusWear
  split
  · rfl
  · split <;> rfl

/-! ## Rows that leave the tables -/

/-- The rows that touch none of the tables, the settings and the lines keep the summed demand within the budget. -/
theorem exec_quiet_withinBudget (c : Instr) (hc : rowClass c = .quiet) (s t : State) (hq : s.QueuesShaped)
    (hs : s.jobView.Coherent) (hb : s.WithinBudget) (h : exec c s = .next t) : t.WithinBudget := by
  have hcommand : ∀ {c : CommandName} {tag : Half} {p : List Byte} {body : State → Answer},
      Quiet s (body s).1 → (body s).1.dbu = s.dbu → command c tag p body s = .next t → t.WithinBudget :=
    fun hquiet hdbu => command_withinBudget hb (fun _ => hb.congr hquiet.store hdbu)
  cases c with
  | identify tag p | statusSnapshot tag p | stop tag p => exact command_withinBudget hb (fun _ => hb) h
  | start tag p => exact command_withinBudget hb (fun _ => start_withinBudget s hb) h
  | abort tag p => exact command_withinBudget hb (fun _ => s.abortJob_withinBudget _ hb) h
  | headPark tag p => exact command_withinBudget hb (fun _ => headPark_withinBudget p s hb) h
  | trackDiscard tag p => exact hcommand (trackDiscard_quiet p s) (trackDiscard_dbu p s) h
  | calibrate tag p => exact hcommand (calibrate_quiet p s) (calibrate_dbu p s) h
  | calMeasure tag p => exact hcommand (calMeasure_quiet p s) (calMeasure_dbu p s) h
  | calCancel tag p => exact hcommand (calCancel_quiet p s) (calCancel_dbu p s) h
  | noticeSkip tag p => exact hcommand (noticeSkip_quiet p s) (noticeSkip_dbu p s) h
  | countersRead tag p => exact hcommand (countersRead_quiet p s) (countersRead_dbu p s) h
  | countersClear tag p => exact hcommand (countersClear_quiet p s) (countersClear_dbu p s) h
  | unknownCommand code tag | shortCommandPayload p | kindError kind | returnFrameSent =>
    exact serve_withinBudget hb hb h
  | trackPart b p => exact serve_withinBudget hb (hb.congr (by simp) (by simp)) h
  | byteIntervalTimeout => exact serve_withinBudget hb (hb.congr (by simp) (by simp)) h
  | reverseCount => exact serve_withinBudget hb (s.reverseCount_withinBudget hb) h
  | indexPulse time => exact serve_withinBudget hb (s.indexPulse_withinBudget time hq hs hb) h
  | stall => exact serve_withinBudget hb (s.stallExpiry_withinBudget hb) h
  | measurementTimeout head => exact serve_withinBudget hb (hb.congr (by simp) (by simp)) h
  | monitorSample head value tag => exact serve_withinBudget hb (s.sample_withinBudget head _ tag hb) h
  | _ => cases hc

theorem exec_setting_withinBudget (c : Instr) (hc : rowClass c = .setting) (s t : State) (hb : s.WithinBudget)
    (h : exec c s = .next t) : t.WithinBudget := by
  have hcommand : ∀ {c : CommandName} {tag : Half} {p : List Byte} {body : State → Answer},
      (body s).1.dbu = s.dbu → command c tag p body s = .next t → t.dbu = s.dbu := fun hdbu =>
    command_keeps (fun u : State => u.dbu = s.dbu) (fun _ _ hu => hu) rfl (fun _ => hdbu)
  refine hb.congr (exec_setting c hc s t h).store ?_
  cases c with
  | timingSet tag p => exact hcommand (timingSet_dbu p s) h
  | jobDefine tag p => exact hcommand (jobDefine_dbu p s) h
  | noticeMask tag p => exact hcommand (noticeMask_dbu p s) h
  | stylusWear tag p => exact hcommand (stylusWear_dbu p s) h
  | _ => cases hc

/-! ## Table rows -/

/-- The Drive Budget Unit and the BOUND slots are as they were. -/
structure BoundKept (s t : State) : Prop where
  dbu : t.dbu = s.dbu
  slot : s.store.Wf → ∀ i, (s.store.slot i).state = .bound → t.store.slot i = s.store.slot i

theorem BoundKept.refl (s : State) : BoundKept s s := ⟨rfl, fun _ _ _ => rfl⟩

/-- A slot that is not BOUND replaced. -/
theorem Store.slot_setSlot_of_bound {t : Store} {i j : Nat} (v : Slot) (hi : (t.slot i).state ≠ .bound)
    (hj : (t.slot j).state = .bound) : (t.setSlot i v).slot j = t.slot j := by
  rw [Store.slot_setSlot, if_neg]
  rintro ⟨rfl, -⟩
  exact hi hj

theorem serve_boundKept {f : State → State} {s t : State} (hf : BoundKept s (f s)) (h : serve f s = .next t) :
    BoundKept s t :=
  serve_keeps (BoundKept s) (fun _ hu => ⟨hu.dbu, hu.slot⟩) (.refl s) hf h

theorem command_boundKept {c : CommandName} {tag : Half} {p : List Byte} {body : State → Answer} {s t : State}
    (hb : BoundKept s (body s).1) (h : command c tag p body s = .next t) : BoundKept s t :=
  command_keeps (BoundKept s) (fun _ _ hu => ⟨hu.dbu, hu.slot⟩) (.refl s) (fun _ => hb) h

theorem State.tableFrame_boundKept (p : List Byte) (f : Nat → Nat → List Entry → Store → StoreAnswer) (s : State)
    (hf : ∀ slot offset entries j, (f slot offset entries s.store).1.slot j = s.store.slot j) :
    BoundKept s (s.tableFrame p f) := by
  refine ⟨by simp, fun _ j _ => ?_⟩
  unfold State.tableFrame
  dsimp only
  rw [State.queueReply_store]
  split
  · exact hf _ _ _ j
  · rfl

theorem tableCommit_boundKept (p : List Byte) (s : State) : BoundKept s (tableCommit p s).1 := by
  rcases tableCommit_cases p s with h | ⟨i, -, hi, -, -, h⟩
  · rw [h]
    exact .refl s
  · rw [h]
    exact ⟨rfl, fun _ _ hj => Store.slot_setSlot_of_bound _ hi hj⟩

theorem State.commitDone_boundKept (s : State) : BoundKept s s.commitDone := by
  refine ⟨by simp, fun hw j hj => ?_⟩
  unfold State.commitDone
  split
  · rename_i i hi
    refine Store.slot_setSlot_of_bound (t := s.store) (Slot.holding .valid s.store.image) ?_ hj
    rw [(hw.committing i).mpr hi]
    exact SlotState.noConfusion
  · rfl

theorem tableErase_boundKept (p : List Byte) (s : State) : BoundKept s (tableErase p s).1 := by
  rcases tableErase_cases p s with h | ⟨i, hi, h⟩
  · rw [h]
    exact .refl s
  · rw [h]
    exact ⟨rfl, fun _ _ hj => Store.slot_setSlot_of_bound _ (by simp [hi]) hj⟩

theorem tableDiscard_boundKept (s : State) : BoundKept s (tableDiscard s).1 := by
  unfold tableDiscard
  split
  · exact .refl s
  · exact ⟨rfl, fun _ _ _ => rfl⟩

theorem tableReadStart_boundKept (p : List Byte) (s : State) : BoundKept s (tableReadStart p s).1 := by
  unfold tableReadStart
  dsimp only
  repeat' split
  all_goals exact ⟨rfl, fun _ _ _ => rfl⟩

theorem tableReadContinue_boundKept (s : State) : BoundKept s (tableReadContinue s).1 := by
  unfold tableReadContinue
  split <;> exact ⟨rfl, fun _ _ _ => rfl⟩

theorem calApply_boundKept (p : List Byte) (s : State) : BoundKept s (calApply p s).1 := by
  rcases calApply_cases p s with h | ⟨h, v, -, hv, he⟩
  · rw [h]
    exact .refl s
  · rw [he]
    exact ⟨rfl, fun _ _ hj => Store.slot_setSlot_of_bound _ (by simp [hv]) hj⟩

theorem exec_table_boundKept (c : Instr) (hc : rowClass c = .table) (s t : State) (h : exec c s = .next t) :
    BoundKept s t := by
  cases c with
  | tableDataOpen p =>
    exact serve_boundKept (s.tableFrame_boundKept p _ (fun _ _ _ j => Store.openData_slot _ _ _ _ j)) h
  | tableData p =>
    exact serve_boundKept (s.tableFrame_boundKept p _ (fun _ _ _ j => Store.appendData_slot _ _ _ _ j)) h
  | tableDiscard tag p => exact command_boundKept (tableDiscard_boundKept s) h
  | tableCommit tag p => exact command_boundKept (tableCommit_boundKept p s) h
  | tableErase tag p => exact command_boundKept (tableErase_boundKept p s) h
  | tableReadStart tag p => exact command_boundKept (tableReadStart_boundKept p s) h
  | tableReadContinue tag p => exact command_boundKept (tableReadContinue_boundKept s) h
  | calApply tag p => exact command_boundKept (calApply_boundKept p s) h
  | commitCompletion => exact serve_boundKept s.commitDone_boundKept h
  | _ => cases hc

theorem budgetSlot_mem_slots (r : JobRecord) : budgetSlot ∈ r.slots := by
  simp [JobRecord.slots, JobRecord.fixedSlots]

/-- Outside SETUP the budgets are BOUND (R158), and in SETUP no head has a demand. -/
theorem exec_table_withinBudget (c : Instr) (hc : rowClass c = .table) (s t : State) (hw : s.store.Wf)
    (hs : s.jobView.Coherent) (hbind : s.BindingExact) (hb : s.WithinBudget) (h : exec c s = .next t) :
    t.WithinBudget := by
  obtain ⟨hdbu, hslot⟩ := exec_table_boundKept c hc s t h
  by_cases hj : s.job.state = .setup
  · refine .of_idle (fun k => ?_)
    rw [hdbu]
    exact hs.sound.idle_of_resting (show jobCutting s.job.state = false by rw [hj]; rfl) k
  · obtain ⟨r, hr⟩ := Option.isSome_iff_exists.mp (hs.sound.defined hj)
    have hbound := hbind.bound hj r hr budgetSlot (budgetSlot_mem_slots r)
    rw [State.WithinBudget, State.summedDemand, State.budgetOf, hdbu, hslot hw budgetSlot hbound]
    exact hb

/-! ## Rows that end or begin a job -/

theorem arm_resting (s : State) (hj : s.job.state = .setup) : jobCutting (arm s).1.job.state = false := by
  have hrests : jobCutting s.job.state = false := by rw [hj]; rfl
  unfold arm
  split
  · exact hrests
  split
  · exact hrests
  · rfl

/-- ARM, DISARM, RELEASE and RESET leave a job that does not cut. -/
theorem exec_job_withinBudget (c : Instr) (hc : rowClass c = .job) (s t : State) (hs : s.jobView.Coherent)
    (hb : s.WithinBudget) (h : exec c s = .next t) : t.WithinBudget := by
  cases c with
  | arm tag p =>
    refine command_withinBudget (c := .arm) hb (fun ha => ?_) h
    have hj := beq_iff_eq.mp ha
    exact .of_resting (arm_coherent s hs hj) (arm_resting s hj)
  | disarm tag p =>
    refine command_withinBudget (c := .disarm) hb (fun ha => ?_) h
    have hj : (disarm s).1.job.state = .setup := by simp [disarm, State.disarmJob, State.freeHeads]
    exact .of_resting (disarm_coherent s hs (beq_iff_eq.mp ha)) (hj ▸ rfl)
  | release tag p =>
    refine command_withinBudget (c := .release) hb (fun ha => ?_) h
    rw [commandAvailable, Bool.or_eq_true, beq_iff_eq, beq_iff_eq] at ha
    have hj : (release s).1.job.state = .setup := by simp [release, State.releaseJob, State.freeHeads]
    exact .of_resting (release_coherent s hs ha) (hj ▸ rfl)
  | reset tag p => exact command_withinBudget hb (fun _ => .of_resting (s.softReset_coherent hs) rfl) h
  | _ => cases hc

theorem exec_full_withinBudget (c : Instr) (hc : rowClass c = .full) (s t : State) (h : exec c s = .next t) :
    t.WithinBudget := by
  cases c with
  | resetNAssert | powerOn | supplyFall =>
    cases h
    exact .of_resting (State.fullReset_coherent _) rfl
  | _ => cases hc

/-! ## Lines -/

/-- The end of a reset reads the bank from the lines, while no head has a demand. -/
theorem State.leaveHeld_withinBudget (s : State) (hs : s.jobView.Coherent) (hj : s.job.state = .setup) :
    s.leaveHeld.WithinBudget := by
  refine .of_resting (s.leaveHeld_coherent hs) ?_
  unfold State.leaveHeld
  split <;> exact hj ▸ rfl

theorem exec_line_withinBudget (c : Instr) (hc : rowClass c = .line) (s t : State) (hs : s.jobView.Coherent)
    (hheld : s.HeldClear) (hb : s.WithinBudget) (h : exec c s = .next t) : t.WithinBudget := by
  cases c with
  | estop level =>
    replace h : execEstop level s = .next t := h
    unfold execEstop at h
    split at h
    · cases h
      exact hb
    split at h
    · cases h
      exact hb
    · exact serve_withinBudget (s := { s with lines := { s.lines with estopN := level } }) hb
        (State.estopChange_withinBudget level _ hb) h
  | feedFault level =>
    exact serve_withinBudget (s := { s with lines := { s.lines with feedFault := level } }) hb
      (State.actFeedFault_withinBudget _ hb) h
  | bankChange bank =>
    replace h : execBankChange bank s = .next t := h
    unfold execBankChange at h
    split at h
    · cases h
      exact hb
    split at h
    · cases h
      exact hb
    · exact serve_withinBudget (s := { s with lines := { s.lines with ps := bank } }) hb
        (State.changeBank_withinBudget bank { s with lines := { s.lines with ps := bank } } hs.sound) h
  | resetNRelease =>
    replace h : execResetNRelease s = .next t := h
    unfold execResetNRelease at h
    split at h
    · cases h
      exact hb
    · rename_i hreset
      cases h
      exact State.leaveHeld_withinBudget _ hs (hheld (by simp [State.inReset, hreset]))
  | powerOnRelease =>
    replace h : execPowerOnRelease s = .next t := h
    unfold execPowerOnRelease at h
    split at h
    · rename_i hpower
      cases h
      exact State.leaveHeld_withinBudget _ hs (hheld (by simp [State.inReset, hpower]))
    · cases h
      exact hb
  | _ => cases hc

/-! ## Every row -/

/-- What holds of the part between two events and the budget needs. -/
structure State.Budgeted (s : State) : Prop where
  tables : s.store.Wf
  queues : s.QueuesShaped
  job : s.jobView.Coherent
  binding : s.BindingExact
  held : s.HeldClear
  budget : s.WithinBudget

theorem exec_frame_withinBudget (c : Instr) (hc : (rowClass c).isFrame = true) (s t : State) (hs : s.Budgeted)
    (h : exec c s = .next t) : t.WithinBudget := by
  cases hr : rowClass c with
  | quiet => exact exec_quiet_withinBudget c hr s t hs.queues hs.job hs.budget h
  | setting => exact exec_setting_withinBudget c hr s t hs.budget h
  | table => exact exec_table_withinBudget c hr s t hs.tables hs.job hs.binding hs.budget h
  | job => exact exec_job_withinBudget c hr s t hs.job hs.budget h
  | count | line | full | feed =>
    rw [hr] at hc
    cases hc

/-- A feed byte moves the receive side and its error counters, or it ends a frame, whose row then acts. -/
theorem exec_feedByte_dbu (b : Byte) (s t : State) (h : exec (.feedByte b) s = .next t) :
    (t.store = s.store ∧ t.dbu = s.dbu) ∨
      ∃ i, (rowClass i).isFrame = true ∧ exec i (s.receiving .hunt) = .next t := by
  replace h : (if s.inReset then Host.Outcome.next s else receiveByte b s) = .next t := h
  split at h
  · cases h
    exact .inl ⟨rfl, rfl⟩
  unfold receiveByte at h
  split at h
  · split at h <;> cases h <;> exact .inl ⟨rfl, rfl⟩
  · repeat' split at h
    all_goals cases h; exact .inl ⟨rfl, rfl⟩
  · cases h
    refine .inl ?_
    unfold State.headerByte State.headerDone
    repeat' split
    all_goals exact ⟨rfl, rfl⟩
  · cases h
    refine .inl ?_
    unfold State.payloadByte
    split <;> exact ⟨rfl, rfl⟩
  · cases h
    exact .inl ⟨rfl, rfl⟩
  · unfold frameEnd at h
    split at h
    · rcases takeFrame_cases _ _ t h with rfl | hrow
      · exact .inl ⟨rfl, rfl⟩
      · exact .inr ⟨_, hrow⟩
    · cases h
      exact .inl ⟨rfl, rfl⟩

theorem exec_feed_withinBudget (c : Instr) (hc : rowClass c = .feed) (s t : State) (hs : s.Budgeted)
    (h : exec c s = .next t) : t.WithinBudget := by
  cases c with
  | feedByte b =>
    rcases exec_feedByte_dbu b s t h with ⟨hstore, hdbu⟩ | ⟨i, hi, hrow⟩
    · exact hs.budget.congr hstore hdbu
    · exact exec_frame_withinBudget i hi (s.receiving .hunt) t
        ⟨hs.tables, hs.queues, hs.job, hs.binding.congr rfl rfl, hs.held, hs.budget⟩ hrow
  | _ => cases hc

theorem exec_withinBudget (c : Instr) (s t : State) (hs : s.Budgeted) (h : exec c s = .next t) :
    t.WithinBudget := by
  cases hr : rowClass c with
  | quiet | setting | table | job => exact exec_frame_withinBudget c (by rw [hr]; rfl) s t hs h
  | count =>
    cases c with
    | forwardCount time =>
      exact serve_withinBudget hs.budget (s.forwardCount_withinBudget time hs.queues hs.job hs.budget) h
    | _ => cases hr
  | line => exact exec_line_withinBudget c hr s t hs.job hs.held hs.budget h
  | full => exact exec_full_withinBudget c hr s t h
  | feed => exact exec_feed_withinBudget c hr s t hs h

theorem summedDemandStaysWithinBudget : SummedDemandStaysWithinBudget := by
  intro s t hw hq hs hbind hheld hb h
  rw [State.jobCoherent_iff] at hs
  rcases step_cases s t h with rfl | ⟨c, rest, -, h⟩
  · exact hb
  · exact exec_withinBudget c { s with pending := rest } t ⟨hw, hq, hs, hbind.congr rfl rfl, hheld, hb⟩ h

/-- Settles O57: demands come in only at a GO and budgets fall only at a bank change, and both shed first. -/
theorem demandStaysWithinBudget : Obligations.DemandStaysWithinBudget :=
  ⟨heldResetKeepsJobInSetup, summedDemandStaysWithinBudget⟩

end Sys2Proof.Machine
end

section
/-! A bank change (O56). -/

namespace Sys2Proof.Machine

/-- The part at steps 1 to 4 of R163: the new bank and its candidates, and BANK_CHANGE posted. -/
def State.bankNoted (bank : BitVec 3) (s : State) : State :=
  State.post
    (.bankChange s.dbu.bank bank (s.budgetOf bank) s.summedDemand (shedSet (s.bankSheds bank))
      (s.bankCandidates bank))
    { s with
      lines := { s.lines with ps := bank }
      dbu := { s.dbu with bank := bank, candidates := s.bankCandidates bank } }

/-- The part after a bank change to a new value of the lines: its sheds, and the return arbiter (R163, R188). -/
def State.bankTaken (bank : BitVec 3) (s : State) : State :=
  ((s.bankNoted bank).shedAll .bankChange (s.budgetOf bank)
    (sumDemands s.dbu.demand.get (allHeads.filter (fun h => s.cuttingTrack h))) (s.bankSheds bank)).arbitrate

theorem exec_bankChange_same {bank : BitVec 3} {s : State} (hr : s.inReset = false) (hb : bank = s.lines.ps) :
    exec (.bankChange bank) s = .next s := by
  show execBankChange bank s = _
  rw [execBankChange, hr, if_neg Bool.false_ne_true, if_pos hb]

theorem exec_bankChange_new {bank : BitVec 3} {s : State} (hr : s.inReset = false) (hb : bank ≠ s.lines.ps) :
    exec (.bankChange bank) s = .next (s.bankTaken bank) := by
  show execBankChange bank s = _
  rw [execBankChange, hr, if_neg Bool.false_ne_true, if_neg hb]
  exact serve_live _ _ hr

/-! ## FEED_EN at the sheds (R43, R164) -/

theorem State.anyCutting_congr {s t : State} (h : t.channels = s.channels) : t.anyCutting = s.anyCutting := by
  simp only [State.anyCutting, State.channelState, h]

/-- A departure drops FEED_EN unless a channel stays CUTTING, and makes no channel CUTTING. -/
theorem State.leaveJob_feedEn (h : Head) (st : ChannelState) (cause : StopCause) (s : State) (hst : st ≠ .cutting) :
    (s.leaveJob h st cause).ctu.feedEn = (s.ctu.feedEn && (s.leaveJob h st cause).anyCutting) ∧
      ((s.leaveJob h st cause).anyCutting = true → s.anyCutting = true) := by
  have hany : (s.leaveJob h st cause).anyCutting = (s.depart h st cause).anyCutting :=
    State.anyCutting_congr (s.leaveJob_channels h st cause)
  rw [hany]
  refine ⟨by simp [State.leaveJob], fun hc => ?_⟩
  rw [s.depart_anyCutting h st cause hst, any_allHeads] at hc
  obtain ⟨g, hg⟩ := hc
  rw [State.anyCutting_eq, any_allHeads]
  exact ⟨g, (Bool.and_eq_true_iff.mp hg).2⟩

theorem isEmpty_iff_none_shed (sheds : List Shed) :
    sheds.isEmpty = true ↔ ∀ h : Head, isShed sheds h = false := by
  simp only [Bool.eq_false_iff, ne_eq, isShed_iff, ← List.eq_nil_iff_forall_not_mem, List.map_eq_nil_iff,
    List.isEmpty_iff]

/-- FEED_EN after the sheds: as before without a shed, and otherwise only while a channel stays CUTTING. -/
theorem State.shedAll_feedEn (o : ShedOccasion) (budget before : Nat) (sheds : List Shed) (s : State) :
    (s.shedAll o budget before sheds).ctu.feedEn =
      (s.ctu.feedEn && (sheds.isEmpty || (s.shedAll o budget before sheds).anyCutting)) := by
  have hdone := forHeads_induction
    (fun i (u : State) => u.ctu.feedEn = true ↔
      s.ctu.feedEn = true ∧ ((∀ k : Head, k.val < i → isShed sheds k = false) ∨ u.anyCutting = true))
    (State.shedIfRemoved o budget before sheds) (fun h u hu => ?_) (s := s)
    ⟨fun hf => ⟨hf, .inl nofun⟩, fun hf => hf.1⟩
  · rw [Bool.eq_iff_iff, Bool.and_eq_true, Bool.or_eq_true, isEmpty_iff_none_shed]
    exact hdone.trans (and_congr_right fun _ => or_congr_left (forall_congr' fun k => forall_prop_of_true k.isLt))
  unfold State.shedIfRemoved
  cases hx : shedOf sheds h with
  | none =>
    have hnot : isShed sheds h = false := by rw [isShed, hx]; rfl
    refine hu.trans (and_congr_right fun _ => or_congr_left ⟨fun hk k hlt => ?_, fun hk k hlt => hk k (by omega)⟩)
    rcases Nat.lt_succ_iff_lt_or_eq.mp hlt with hlt | heq
    · exact hk k hlt
    · exact Fin.ext heq ▸ hnot
  | some x =>
    have hshed : isShed sheds h = true := by rw [isShed, hx]; rfl
    obtain ⟨hfeed, hkept⟩ : (u.shedHead o budget before x).ctu.feedEn =
          (u.ctu.feedEn && (u.shedHead o budget before x).anyCutting) ∧
        ((u.shedHead o budget before x).anyCutting = true → u.anyCutting = true) :=
      State.leaveJob_feedEn x.head .parked .budgetShed (u.post _) nofun
    show (u.shedHead o budget before x).ctu.feedEn = true ↔ _
    rw [hfeed, Bool.and_eq_true, hu]
    constructor
    · rintro ⟨⟨hs, -⟩, hc⟩
      exact ⟨hs, .inr hc⟩
    · rintro ⟨hs, hnone | hc⟩
      · cases hshed.symm.trans (hnone h (Nat.lt_succ_self _))
      · exact ⟨⟨hs, .inr (hkept hc)⟩, hc⟩

/-! ## The statement -/

section Taken

variable (bank : BitVec 3) (s : State)

/-- The sheds of a bank change park the removed heads and leave every other one. -/
theorem State.bankTaken_seat (h : Head) :
    State.seat h (s.bankTaken bank) = if isShed (s.bankSheds bank) h then shedSeat (s.seat h) else s.seat h :=
  State.shedAll_seat _ _ _ _ (s.bankNoted bank) h

theorem State.bankTaken_of_no_shed (h : s.bankSheds bank = []) :
    s.bankTaken bank = (s.bankNoted bank).arbitrate := by
  rw [State.bankTaken, h, State.shedAll_nil]

theorem State.bankTaken_bank :
    (s.bankTaken bank).dbu.bank = bank ∧ (s.bankTaken bank).dbu.candidates = s.bankCandidates bank :=
  State.shedAll_bank _ _ _ _ (s.bankNoted bank)

theorem State.bankTaken_store : (s.bankTaken bank).store = s.store := by
  simp [State.bankTaken, State.bankNoted]

end Taken

/-- Settles O56: a bank change is the shedding order over the tracks in progress, and the sheds of its result. -/
theorem bankChangeShedsCuttingChannels : Obligations.BankChangeShedsCuttingChannels := by
  intro bank s hr budget track sheds candidates noted t
  have hsheds : sheds = s.bankSheds bank := rfl
  have hcandidates : candidates = s.bankCandidates bank := rfl
  have hnoted : noted = s.bankNoted bank := rfl
  have ht : t = s.bankTaken bank := congrArg State.arbitrate (State.shedAll_eq _ _ _ _ _).symm
  clear_value t noted candidates sheds
  subst ht hnoted hcandidates hsheds
  obtain ⟨hbank, hcandidates⟩ := s.bankTaken_bank bank
  refine ⟨exec_bankChange_same hr, fun hb => ⟨exec_bankChange_new hr hb, s.bankTaken_of_no_shed bank, hbank,
    hcandidates, fun h hs => ?_, fun h hs => ?_, s.bankTaken_store bank, State.shedAll_feedEn _ _ _ _ _⟩⟩
  · have hseat := s.bankTaken_seat bank h
    rw [if_pos hs] at hseat
    injection hseat with hchannel hrest
    injection hrest with hqueue hdemand
    rw [hchannel, hqueue, hdemand]
    exact ⟨rfl, rfl, rfl⟩
  · have hseat := s.bankTaken_seat bank h
    rw [if_neg (Bool.eq_false_iff.mp hs)] at hseat
    injection hseat with hchannel hrest
    injection hrest with hqueue hdemand
    exact ⟨hchannel, hqueue, hdemand⟩

end Sys2Proof.Machine
end

section
/-! The way of an event through the Report Unit, and the order of replies and notices on the return line (O58, O14). -/

namespace Sys2Proof.Machine

open Sys2Proof.Claims

/-! ## Flag, skip and mask (R197 to R201) -/

theorem eventKind_range (e : Event) : 1 ≤ eventKind e ∧ eventKind e ≤ 19 := by
  cases e <;> exact ⟨Nat.le_add_left .., by simp [eventKind]⟩

/-- A posted event sets the flag of its kind, and the flags set before stay. -/
theorem Rpt.setKindFlag_getLsbD {kind : Nat} (r : Rpt) {i : Nat} (hi : i < 19) :
    (r.setKindFlag kind).kindFlags.getLsbD i = (r.kindFlags.getLsbD i || i == kind - 1) := by
  have hkind : (decide (kind - 1 < 19) && decide (kind - 1 = i)) = (i == kind - 1) := by
    rw [Bool.eq_iff_iff, Bool.and_eq_true, decide_eq_true_eq, decide_eq_true_eq, beq_iff_eq]
    omega
  rw [Rpt.setKindFlag, BitVec.getLsbD_or, BitVec.getLsbD_twoPow, hkind]

theorem sentAlways_iff {signed isMatch short final : Bool} :
    sentAlways signed isMatch short final = true ↔
      final = true ∨ short = true ∨ (signed = true ∧ isMatch = false) := by
  simp [sentAlways, or_assoc]

theorem Rpt.letsOn_iff (e : Event) (s : State) : s.rpt.letsOn e = true ↔ letOn e s := by
  cases e with
  | trackDone h track cells s1 s2 signed isMatch short final n =>
    simp only [Rpt.letsOn, letOn, Bool.or_eq_true, sentAlways_iff, beq_iff_eq, or_assoc]
  | deviation h tag k v depth run => exact beq_iff_eq
  | _ => exact iff_of_true rfl trivial

theorem Rpt.sends_iff (e : Event) (s : State) :
    s.rpt.sends e = true ↔ letOn e s ∧ s.rpt.mask.getLsbD (eventKind e - 1) = true := by
  rw [Rpt.sends, Bool.and_eq_true, Rpt.letsOn_iff, Rpt.enables]

/-! ## The notice queue (R187) -/

/-- A notice that is sent is appended while fewer than 32 wait. -/
theorem State.post_sent {e : Event} {s : State} (hsent : s.rpt.sends e = true) (hroom : s.fli.notices.length < 32) :
    (s.post e).fli = { s.fli with notices := s.fli.notices ++ [noticeFrame e] } ∧
      (s.post e).rpt.noticeLost = s.rpt.noticeLost := by
  simp [State.post, hsent, Config.noticeCapacity, hroom, Nat.not_le.mpr hroom]

/-- A notice that is sent while 32 wait is lost. -/
theorem State.post_lost {e : Event} {s : State} (hsent : s.rpt.sends e = true) (hfull : 32 ≤ s.fli.notices.length) :
    (s.post e).fli = s.fli ∧ (s.post e).rpt.noticeLost = true := by
  simp [State.post, hsent, Config.noticeCapacity, hfull, Nat.not_lt.mpr hfull]

/-- An event passed over by the skip or the mask leaves the queue. -/
theorem State.post_passedOver {e : Event} {s : State} (hnot : s.rpt.sends e = false) :
    (s.post e).fli = s.fli ∧ (s.post e).rpt.noticeLost = s.rpt.noticeLost := by
  simp [State.post, hnot]

theorem eventIsFlaggedAndSentOrPassedOver : EventIsFlaggedAndSentOrPassedOver := by
  intro e s t kind sent
  have hsent : s.rpt.sends e = true ↔ sent := Rpt.sends_iff e s
  obtain ⟨hlow, hhigh⟩ := eventKind_range e
  refine ⟨hlow, hhigh, fun i hi => s.rpt.setKindFlag_getLsbD hi, fun hs hroom => ?_, fun hs hfull => ?_,
    fun hs => ?_, rfl⟩
  · exact State.post_sent (hsent.mpr hs) hroom
  · exact State.post_lost (hsent.mpr hs) hfull
  · exact State.post_passedOver (Bool.eq_false_iff.mpr (fun h => hs (hsent.mp h)))

/-! ## The skip counters (R199) -/

theorem Rpt.skipsAfter_other {e : Event} (r : Rpt) (hdone : eventKind e ≠ 0x03) (hdev : eventKind e ≠ 0x0d) :
    r.skipsAfter e = r.skips := by
  cases e with
  | trackDone => exact absurd rfl hdone
  | deviation => exact absurd rfl hdev
  | _ => rfl

theorem skipCountersCountOrdinaryEvents : SkipCountersCountOrdinaryEvents := by
  intro h track cells s1 s2 signed isMatch short final n tag k v run depth s c
  refine ⟨fun halways => ?_, fun hfinal hshort hsigned => ?_, rfl, fun e => s.rpt.skipsAfter_other⟩
  · exact if_pos (sentAlways_iff.mpr halways)
  · refine if_neg (fun halways => ?_)
    rcases sentAlways_iff.mp halways with hf | hs | ⟨hsign, hmatch⟩
    · rw [hfinal] at hf
      cases hf
    · rw [hshort] at hs
      cases hs
    · rw [hsign, hmatch] at hsigned
      simp at hsigned

/-- Settles O58, one part for the notice and one for the skip counters. -/
theorem postedEventBecomesNoticeOrFlag : Obligations.PostedEventBecomesNoticeOrFlag :=
  ⟨eventIsFlaggedAndSentOrPassedOver, skipCountersCountOrdinaryEvents⟩

/-! ## The reply queue and the arbiter (R186, R188) -/

theorem State.queueReply_room {s : State} (f : ReturnFrame) (hroom : s.fli.replies.length < 8) :
    s.queueReply f = { s with fli := { s.fli with replies := s.fli.replies ++ [f] } } := by
  simp [State.queueReply, Config.replyCapacity, hroom, Nat.not_le.mpr hroom]

theorem State.queueReply_full {s : State} (f : ReturnFrame) (hfull : 8 ≤ s.fli.replies.length) :
    s.queueReply f = { s with rpt := { s.rpt with replyLost := true } } := by
  simp [State.queueReply, Config.replyCapacity, hfull, Nat.not_lt.mpr hfull]

theorem Fli.arbitrate_busy {f : Fli} {x : ReturnFrame} (hline : f.line = some x) : f.arbitrate = f := by
  rw [Fli.arbitrate, hline]

theorem Fli.arbitrate_reply {f : Fli} {r : ReturnFrame} {rest : List ReturnFrame} (hline : f.line = none)
    (hr : f.replies = r :: rest) : f.arbitrate = { f with line := some r, replies := rest } := by
  rw [Fli.arbitrate, hline, hr]

theorem Fli.arbitrate_notice {f : Fli} {n : ReturnFrame} {rest : List ReturnFrame} (hline : f.line = none)
    (hr : f.replies = []) (hn : f.notices = n :: rest) :
    f.arbitrate = { f with line := some n, notices := rest } := by
  rw [Fli.arbitrate, hline, hr, hn]

theorem Fli.arbitrate_idle {f : Fli} (hline : f.line = none) (hr : f.replies = []) (hn : f.notices = []) :
    f.arbitrate = f := by
  rw [Fli.arbitrate, hline, hr, hn]

/-- The end of a frame frees the line, and the arbiter begins the next frame. -/
theorem exec_returnFrameSent {s : State} {f : Fli} (hr : s.inReset = false) (hf : s.lineFree.fli.arbitrate = f) :
    exec .returnFrameSent s = .next { s with fli := f } := by
  rw [← hf]
  exact serve_live State.lineFree s hr

/-- Settles O14, by the room in the reply queue and by what waits when the line becomes free. -/
theorem repliesGoBeforeNotices : Obligations.RepliesGoBeforeNotices := by
  refine fun s => ⟨fun f => State.queueReply_room f, fun f => State.queueReply_full f, fun f hline => ?_, fun hr => ?_⟩
  · rw [State.arbitrate, Fli.arbitrate_busy hline]
  · exact ⟨fun r rest hreply => exec_returnFrameSent hr (Fli.arbitrate_reply rfl hreply),
      fun n rest hreply hnotice => exec_returnFrameSent hr (Fli.arbitrate_notice rfl hreply hnotice),
      fun hreply hnotice => exec_returnFrameSent hr (Fli.arbitrate_idle rfl hreply hnotice)⟩

end Sys2Proof.Machine
end

section
/-! The bounds of both sides of the link (O10). -/

namespace Sys2Proof.Machine

open Sys2Proof.Claims

/-! ## What a chain of moves keeps of the link -/

/-- A post adds at most one notice, while there is room for it. -/
theorem State.post_fliMove (e : Event) (s : State) : FliMove s.fli (s.post e).fli := by
  refine ⟨id, fun hn => ?_, id⟩
  cases hsent : s.rpt.sends e with
  | false => rwa [(State.post_passedOver hsent).1]
  | true =>
    rcases Nat.lt_or_ge s.fli.notices.length 32 with hroom | hfull
    · rw [(State.post_sent hsent hroom).1, List.length_append]
      exact hroom
    · rwa [(State.post_lost hsent hfull).1]

/-- A stroke posts at most the fault of a lost monitor. -/
theorem State.emit_fliMove (h : Head) (k : Stroke) (s : State) : FliMove s.fli (s.emit h k).fli := by
  rw [State.emit, State.updChannel_fli, State.updChannel_fli, State.enterStroke_eq]
  split
  · exact State.post_fliMove _ (State.withEntered h k.word k.closed _)
  · exact ⟨id, id, id⟩

theorem Moves.fliMove {s t : State} (h : Moves s t) : FliMove s.fli t.fli := by
  induction h with
  | refl s | free | channels | monitors | queues | cals | store => exact ⟨id, id, id⟩
  | trans _ _ ihs iht =>
    obtain ⟨hreplies, hnotices, hreceive⟩ := ihs
    obtain ⟨treplies, tnotices, treceive⟩ := iht
    exact ⟨treplies ∘ hreplies, tnotices ∘ hnotices, treceive ∘ hreceive⟩
  | link f s hf => exact hf
  | emit h k s => exact s.emit_fliMove h k
  | fullReset s => exact ⟨fun _ => Nat.zero_le 8, fun _ => Nat.zero_le 32, fun _ => trivial⟩

/-! ## Nothing waits while the line is free (R188) -/

/-- Nothing waits while the line is free. -/
def Fli.Drained (f : Fli) : Prop := f.line = none → f.replies = [] ∧ f.notices = []

theorem Fli.Drained.receiving {f : Fli} (h : f.Drained) (r : Receive) : Fli.Drained { f with receive := r } := h

/-- The arbiter leaves the line free only where nothing waits. -/
theorem Fli.arbitrate_drained (f : Fli) : f.arbitrate.Drained := by
  intro hfree
  cases hline : f.line with
  | some x =>
    rw [Fli.arbitrate_busy hline, hline] at hfree
    cases hfree
  | none =>
    cases hr : f.replies with
    | cons r rest =>
      rw [Fli.arbitrate_reply hline hr] at hfree
      cases hfree
    | nil =>
      cases hn : f.notices with
      | cons n rest =>
        rw [Fli.arbitrate_notice hline hr hn] at hfree
        cases hfree
      | nil =>
        rw [Fli.arbitrate_idle hline hr hn]
        exact ⟨hr, hn⟩

theorem serve_drained {f : State → State} {s t : State} (hs : s.fli.Drained) (h : serve f s = .next t) :
    t.fli.Drained := by
  unfold serve at h
  split at h
  · cases h
    exact hs
  · cases h
    exact Fli.arbitrate_drained _

theorem RowClass.changesLines_of_isFrame {r : RowClass} (hr : r.isFrame = true) : r.changesLines = false := by
  cases r with
  | count | line | full | feed => cases hr
  | quiet | setting | table | job => rfl

/-- Apart from the rows of the lines and the feed bytes, every row is an event that the return arbiter ends. -/
theorem exec_served (c : Instr) : (rowClass c).changesLines = true ∨ rowClass c = .feed ∨
    ∃ f, ∀ s, exec c s = serve f s := by
  cases c with
  | estop _ | feedFault _ | bankChange _ | resetNAssert | resetNRelease | powerOn | powerOnRelease | supplyFall =>
    exact .inl rfl
  | feedByte b => exact .inr (.inl rfl)
  | _ => exact .inr (.inr ⟨_, fun _ => rfl⟩)

/-- A byte that ends no frame moves the receive side and the link errors alone; a byte that ends one runs its row. -/
theorem receiveByte_cases (b : Byte) (s t : State) (h : receiveByte b s = .next t) :
    (∃ r, t.fli = { s.fli with receive := r }) ∨
      ∃ i, (rowClass i).isFrame = true ∧ exec i (s.receiving .hunt) = .next t := by
  unfold receiveByte at h
  split at h
  · split at h <;> cases h <;> exact .inl ⟨_, rfl⟩
  · repeat' split at h
    all_goals cases h; exact .inl ⟨_, rfl⟩
  · cases h
    unfold State.headerByte State.headerDone
    repeat' split
    all_goals exact .inl ⟨_, rfl⟩
  · cases h
    unfold State.payloadByte
    split <;> exact .inl ⟨_, rfl⟩
  · cases h
    exact .inl ⟨_, rfl⟩
  · unfold frameEnd at h
    split at h
    · rcases takeFrame_cases _ _ t h with rfl | hrow
      · exact .inl ⟨_, rfl⟩
      · exact .inr ⟨_, hrow⟩
    · cases h
      exact .inl ⟨_, rfl⟩

/-- A row of the lines leaves the return side as it is or clears it, or is an event that the arbiter ends. -/
theorem exec_line_drained (c : Instr) (hc : (rowClass c).changesLines = true) (s t : State) (hs : s.fli.Drained)
    (h : exec c s = .next t) : t.fli.Drained := by
  have hheld : ∀ u : State, u.fli = s.fli → u.leaveHeld.fli.Drained := fun u hu => by
    unfold State.leaveHeld
    split <;> exact hu ▸ hs
  cases c with
  | estop level =>
    replace h : execEstop level s = .next t := h
    unfold execEstop at h
    repeat' split at h
    · cases h
      exact hs
    · cases h
      exact hs
    · exact serve_drained (s := { s with lines := { s.lines with estopN := level } }) hs h
  | feedFault level => exact serve_drained (s := { s with lines := { s.lines with feedFault := level } }) hs h
  | bankChange bank =>
    replace h : execBankChange bank s = .next t := h
    unfold execBankChange at h
    repeat' split at h
    · cases h
      exact hs
    · cases h
      exact hs
    · exact serve_drained (s := { s with lines := { s.lines with ps := bank } }) hs h
  | resetNRelease =>
    replace h : execResetNRelease s = .next t := h
    unfold execResetNRelease at h
    split at h
    · cases h
      exact hs
    · cases h
      exact hheld { s with lines := { s.lines with resetN := true } } rfl
  | powerOnRelease =>
    replace h : execPowerOnRelease s = .next t := h
    unfold execPowerOnRelease at h
    split at h
    · cases h
      exact hheld { s with lines := { s.lines with powerHeld := false } } rfl
    · cases h
      exact hs
  | resetNAssert | powerOn | supplyFall =>
    cases h
    exact fun _ => ⟨rfl, rfl⟩
  | _ => cases hc

theorem exec_frame_drained (c : Instr) (hc : (rowClass c).isFrame = true) (s t : State) (hs : s.fli.Drained)
    (h : exec c s = .next t) : t.fli.Drained := by
  rcases exec_served c with hline | hfeed | ⟨f, hserve⟩
  · rw [RowClass.changesLines_of_isFrame hc] at hline
    contradiction
  · rw [hfeed] at hc
    contradiction
  · exact serve_drained hs (hserve s ▸ h)

theorem exec_drained (c : Instr) (s t : State) (hs : s.fli.Drained) (h : exec c s = .next t) : t.fli.Drained := by
  rcases exec_served c with hline | hfeed | ⟨f, hserve⟩
  · exact exec_line_drained c hline s t hs h
  · cases c with
    | feedByte b =>
      replace h : (if s.inReset then Host.Outcome.next s else receiveByte b s) = .next t := h
      split at h
      · cases h
        exact hs
      rcases receiveByte_cases b s t h with ⟨r, hfli⟩ | ⟨i, hi, hrow⟩
      · rw [hfli]
        exact hs.receiving r
      · exact exec_frame_drained i hi (s.receiving .hunt) t (hs.receiving .hunt) hrow
    | _ => cases hfeed
  · exact serve_drained hs (hserve s ▸ h)

/-! ## The statement -/

theorem receiveSideCountsArePreserved : ReceiveSideCountsArePreserved := by
  intro s t hs h
  rcases step_cases s t h with rfl | ⟨c, rest, -, h⟩
  · exact hs
  · obtain ⟨-, -, hreceive⟩ := (exec_moves c _ t h).fliMove
    exact hreceive hs

theorem returnQueuesStayOrderly : ReturnQueuesStayOrderly := by
  rintro s t ⟨hreplies, hnotices, hdrained⟩ h
  rcases step_cases s t h with rfl | ⟨c, rest, -, h⟩
  · exact ⟨hreplies, hnotices, hdrained⟩
  · obtain ⟨mreplies, mnotices, -⟩ := (exec_moves c _ t h).fliMove
    exact ⟨mreplies hreplies, mnotices hnotices, exec_drained c { s with pending := rest } t hdrained h⟩

/-- Settles O10: every step is a chain of moves, and every event ends with the return arbiter. -/
theorem linkStaysOrderly : Obligations.LinkStaysOrderly :=
  ⟨receiveSideCountsArePreserved, returnQueuesStayOrderly⟩

end Sys2Proof.Machine
end

section
/-! The CRC of R174 (O9). -/

namespace Sys2Proof.Machine

/-- A message bit equal to the bit shifted out leaves the division out: the remainder is shifted. -/
theorem crcBit_msb {r : Half} {bit : Bool} (h : bit = r.msb) : crcBit r bit = r <<< 1 := by
  rw [crcBit, h, bne_self_eq_false, if_neg Bool.false_ne_true]

/-- The first bits of a byte that repeats the high byte of the remainder shift the remainder out. -/
theorem foldl_crcBit_highByte {r : Half} {b : Byte} (hb : ∀ i, i < 8 → b.getLsbD i = r.getLsbD (i + 8)) (n : Nat)
    (hn : n ≤ 8) : (List.range n).foldl (fun r i => crcBit r (b.getLsbD (7 - i))) r = r <<< n := by
  induction n with
  | zero => exact (BitVec.shiftLeft_zero r).symm
  | succ n ih =>
    have hbit : b.getLsbD (7 - n) = (r <<< n).msb := by
      rw [hb _ (by omega), BitVec.msb_eq_getLsbD_last, BitVec.getLsbD_shiftLeft, show 7 - n + 8 = 16 - 1 - n by omega]
      simp [show n ≤ 15 by omega]
    rw [List.range_succ, List.foldl_append, ih (by omega), List.foldl_cons, List.foldl_nil, crcBit_msb hbit,
      BitVec.shiftLeft_add]

/-- A byte that repeats the high byte of the remainder shifts it out. -/
theorem crcByte_highByte {r : Half} {b : Byte} (hb : ∀ i, i < 8 → b.getLsbD i = r.getLsbD (i + 8)) :
    crcByte r b = r <<< 8 :=
  foldl_crcBit_highByte hb 8 (Nat.le_refl 8)

/-- A remainder followed by its own two bytes is shifted out whole. -/
theorem foldl_crcByte_self (r : Half) : (be16 r.toNat).foldl crcByte r = 0 := by
  have hhigh : ∀ i, i < 8 → (BitVec.ofNat 8 (r.toNat / 256)).getLsbD i = r.getLsbD (i + 8) := fun i hi => by
    rw [BitVec.getLsbD_ofNat, decide_eq_true hi, Bool.true_and,
      show (256 : Nat) = 2 ^ 8 from rfl, Nat.testBit_div_two_pow]
    rfl
  have hlow : ∀ i, i < 8 → (BitVec.ofNat 8 r.toNat).getLsbD i = (r <<< 8).getLsbD (i + 8) := fun i hi => by
    rw [BitVec.getLsbD_ofNat, BitVec.getLsbD_shiftLeft]
    simp [hi, BitVec.getLsbD]
    omega
  rw [be16, List.foldl_cons, crcByte_highByte hhigh, List.foldl_cons, crcByte_highByte hlow, List.foldl_nil,
    ← BitVec.shiftLeft_add]
  exact BitVec.shiftLeft_eq_zero (Nat.le_refl 16)

/-- Settles O9: the CRC of the message is the remainder that its own two bytes shift out. -/
theorem crcOfMessageWithItsCrcIsZero : Obligations.CrcOfMessageWithItsCrcIsZero := by
  refine ⟨by decide +kernel, fun bytes => ?_⟩
  rw [crc, List.foldl_append]
  exact foldl_crcByte_self (crc bytes)

end Sys2Proof.Machine
end

section
/-! The codes and parameter lengths of the commands, the codes of the link's quantities, and the layout of its frames
(O11). -/

namespace Sys2Proof.Machine

open Sys2Proof.Claims

/-! ## Items of a body (R178) -/

theorem flagByte_eq_yes (b : Bool) : flagByte b = yes b := by
  cases b <;> rfl

theorem optionalItem_eq_maybe (width : Nat) (item : Option (List Byte)) : optionalItem width item = maybe width item := by
  cases item <;> rfl

theorem rangeBytes_eq : rangeBytes = fun v =>
    match v with
    | .gain g => 0 :: be32 g
    | .base b => 1 :: beInt32 b := by
  funext v
  cases v <;> rfl

theorem accountBytes_eq : accountBytes = fun a =>
    be16 a.number ++ be16 a.cells ++ be16 a.sum1 ++ be16 a.sum2 ++ yes a.short := by
  funext a
  rw [accountBytes, flagByte_eq_yes]

/-! ## Notices (R197) -/

theorem eventKind_eq_kindOf (e : Event) : eventKind e = (kindOf e).toNat := by
  cases e <;> rfl

theorem kindOf_eq_eventKind (e : Event) : BitVec.ofNat 8 (eventKind e) = kindOf e := by
  rw [eventKind_eq_kindOf, BitVec.ofNat_toNat, BitVec.setWidth_eq]

theorem eventHeadByte_eq (e : Event) : eventHeadByte e =
    match headOfEvent e with
    | some h => BitVec.ofNat 8 h.val
    | none => 0x0f := by
  cases e with
  | partRefused b head track offset reason resumeTrack resumeOffset => cases head <;> rfl
  | _ => rfl

/-- The body of a notice is the contents of its rule, item by item. -/
theorem eventBody_eq_bodyOf (e : Event) : eventBody e = bodyOf e := by
  cases e with
  | jobState | deviation | stylusFault | calFailed | channelState | trackDone | estop =>
    simp only [eventBody, bodyOf, optionalItem_eq_maybe, flagByte_eq_yes, rangeBytes_eq, accountBytes_eq] <;> rfl
  | speed period deviation hard => cases hard <;> rfl
  | hold data speed lacking count => cases data <;> cases speed <;> rfl
  | _ => rfl

theorem noticesCarryContentsOfTheirRules : NoticesCarryContentsOfTheirRules := by
  refine ⟨fun e => ⟨eventKind_eq_kindOf e, ?_⟩, fun code tag status data => rfl, fun kind head payload => ?_⟩
  · rw [noticeFrame, eventHeadByte_eq, kindOf_eq_eventKind, eventBody_eq_bodyOf]
    rfl
  · simp [ReturnFrame.wire, frameOf, covered]

/-! ## Codes (R177, R178, R182) -/

theorem commandRowsAreTheManuals : CommandRowsAreTheManuals := by
  unfold CommandRowsAreTheManuals
  and_intros <;> rfl

theorem codesAreTheManuals : CodesAreTheManuals := by
  refine ⟨rfl, rfl, rfl, rfl, rfl, rfl, rfl, rfl, rfl, rfl, rfl, rfl, rfl, rfl, fun u => rfl, rfl⟩

/-- Settles O11: the three tables, read off. -/
theorem commandTableIsTheManuals : Obligations.CommandTableIsTheManuals :=
  ⟨commandRowsAreTheManuals, codesAreTheManuals, noticesCarryContentsOfTheirRules⟩

end Sys2Proof.Machine
end

section
/-! The routing of a good frame (O7). -/

namespace Sys2Proof.Machine

open Sys2Proof.Claims

/-! ## The row of a command code (R180, R182) -/

/-- The first row of a table with a code, or another row where the table has none. -/
def routed (code : Byte) (rows : List (Byte × Instr)) (other : Instr) : Instr :=
  rows.foldr (fun r rest => if code = r.1 then r.2 else rest) other

/-- A command code is routed by the table of R182. -/
theorem commandOf_eq_routed (code : Byte) (tag : Half) (params : List Byte) :
    commandOf code tag params = routed code (codeRows tag params) (.unknownCommand code tag) := rfl

theorem routed_of_mem {code : Byte} {row : Instr} {rows : List (Byte × Instr)} (other : Instr)
    (hnodup : (rows.map Prod.fst).Nodup) (h : (code, row) ∈ rows) : routed code rows other = row := by
  induction rows with
  | nil => cases h
  | cons r rest ih =>
    rw [List.map_cons, List.nodup_cons] at hnodup
    rw [routed, List.foldr_cons]
    rcases List.mem_cons.mp h with rfl | hrest
    · exact if_pos rfl
    · have hne : code ≠ r.1 := fun heq => hnodup.1 (heq ▸ List.mem_map_of_mem hrest)
      rw [if_neg hne]
      exact ih hnodup.2 hrest

theorem routed_of_not_mem {code : Byte} {rows : List (Byte × Instr)} (other : Instr)
    (h : code ∉ rows.map Prod.fst) : routed code rows other = other := by
  induction rows with
  | nil => rfl
  | cons r rest ih =>
    rw [List.map_cons, List.mem_cons, not_or] at h
    rw [routed, List.foldr_cons, if_neg h.1]
    exact ih h.2

theorem codeRows_codes (tag : Half) (params : List Byte) : (codeRows tag params).map Prod.fst = commandCodes := rfl

theorem commandCodes_nodup : commandCodes.Nodup := by decide

theorem commandOf_of_mem {code : Byte} {tag : Half} {params : List Byte} {row : Instr}
    (h : (code, row) ∈ codeRows tag params) : commandOf code tag params = row := by
  rw [commandOf_eq_routed]
  exact routed_of_mem _ ((codeRows_codes tag params).symm ▸ commandCodes_nodup) h

theorem commandOf_of_not_mem {code : Byte} {tag : Half} {params : List Byte} (h : code ∉ commandCodes) :
    commandOf code tag params = .unknownCommand code tag := by
  rw [commandOf_eq_routed]
  exact routed_of_not_mem _ h

/-- The commands of the part, in the order of their codes. -/
def commandNames : List CommandName :=
  [.identify, .statusSnapshot, .reset, .timingSet, .tableDiscard, .tableCommit, .tableErase, .tableReadStart,
    .tableReadContinue, .jobDefine, .arm, .disarm, .start, .stop, .abort, .release, .headPark, .trackDiscard, .calibrate,
    .calMeasure, .calApply, .calCancel, .stylusWear, .noticeMask, .noticeSkip, .countersRead, .countersClear]

theorem commandCodes_eq : commandCodes = commandNames.map commandCode := rfl

/-- A code is that of a command, or it is unknown. -/
theorem commandOf_cases (code : Byte) (tag : Half) (params : List Byte) :
    (∃ c, code = commandCode c) ∨ (code ∉ commandCodes ∧ commandOf code tag params = .unknownCommand code tag) := by
  by_cases hcode : code ∈ commandCodes
  · rw [commandCodes_eq] at hcode
    obtain ⟨c, -, hc⟩ := List.mem_map.mp hcode
    exact .inl ⟨c, hc.symm⟩
  · exact .inr ⟨hcode, commandOf_of_not_mem hcode⟩

/-! ## The rows a frame can be -/

/-- What holds of every row that a frame of a payload can be. -/
theorem frameRow_induction {P : Instr → Prop} (kind head : Byte) (payload : List Byte)
    (part : P (.trackPart head payload)) (opening : carriesOpen payload = true → P (.tableDataOpen payload))
    (table : carriesOpen payload = false → P (.tableData payload))
    (command : ∀ c tag params, params.length + 3 = payload.length → P (commandOf (commandCode c) tag params))
    (unknown : ∀ code tag, code ∉ commandCodes → P (.unknownCommand code tag))
    (short : payload.length < 3 → P (.shortCommandPayload payload))
    (other : kind ≠ 0x11 → kind ≠ 0x12 → kind ≠ 0x13 → P (.kindError kind)) : P (frameRow kind head payload) := by
  have hopens : dataOpens payload = carriesOpen payload := by
    match payload with
    | [] | [_] => rfl
    | slot :: flags :: rest => simp [dataOpens, carriesOpen]
  unfold frameRow
  split
  · exact part
  split
  · split
    · exact opening (hopens ▸ ‹_›)
    · exact table (hopens ▸ Bool.eq_false_iff.mpr ‹_›)
  split
  · match payload with
    | [] | [_] | [_, _] => exact short (by simp)
    | code :: t1 :: t0 :: params =>
      show P (commandOf code (t1 ++ t0) params)
      rcases commandOf_cases code (t1 ++ t0) params with ⟨c, rfl⟩ | ⟨hcode, hunknown⟩
      · exact command c (t1 ++ t0) params rfl
      · rw [hunknown]
        exact unknown code (t1 ++ t0) hcode
  · exact other ‹_› ‹_› ‹_›

theorem commandOf_wellFormed (c : CommandName) (tag : Half) (params : List Byte) :
    (commandOf (commandCode c) tag params).wellFormed = paramsFit params := by
  cases c <;> rfl

theorem frameRow_wellFormed (kind head : Byte) (payload : List Byte) (hsize : payload.length ≤ 4096) :
    (frameRow kind head payload).wellFormed = true := by
  refine frameRow_induction (P := fun i => i.wellFormed = true) kind head payload ?_ (fun hopen => ?_)
    (fun hopen => ?_) (fun c tag params hlength => ?_) (fun code tag hcode => ?_) (fun hshort => ?_)
    (fun hpart htable hcommand => ?_)
  · exact decide_eq_true hsize
  · rw [Instr.wellFormed, decide_eq_true hsize, hopen, Bool.and_self]
  · rw [Instr.wellFormed, decide_eq_true hsize, hopen, Bool.not_false, Bool.and_self]
  · rw [commandOf_wellFormed, paramsFit, decide_eq_true_eq]
    omega
  · rw [Instr.wellFormed, Bool.not_eq_true', ← Bool.not_eq_true, List.contains_iff_mem]
    exact hcode
  · exact decide_eq_true hshort
  · rw [Instr.wellFormed, Bool.not_eq_true', ← Bool.not_eq_true, List.contains_iff_mem, List.mem_cons,
      List.mem_cons, List.mem_singleton, not_or, not_or]
    exact ⟨hpart, htable, hcommand⟩

/-- Settles O7: a kind byte names its rows, and a code its row of the table of R182. -/
theorem goodFrameIsRowOfItsKind : Obligations.GoodFrameIsRowOfItsKind := by
  intro kind head payload
  refine ⟨frameRow_wellFormed kind head payload, ?_, ?_, ?_, ?_, ?_, ?_, fun hpart htable hcommand => ?_⟩
  · rintro rfl
    rfl
  · rintro rfl slot flags rest rfl
    simp [frameRow, dataOpens]
  · rintro rfl hshort
    simp [frameRow, dataOpens, Nat.not_le.mpr hshort]
  · rintro rfl c t1 t0 params rfl
    rfl
  · rintro rfl code t1 t0 params rfl
    exact ⟨fun row => commandOf_of_mem, commandOf_of_not_mem⟩
  · rintro rfl hshort
    match payload, hshort with
    | [], _ | [_], _ | [_, _], _ => rfl
  · rw [frameRow, if_neg hpart, if_neg htable, if_neg hcommand]

end Sys2Proof.Machine
end

section
/-! The receive side byte by byte, and the frame sent as the frame taken (O6, O8). -/

namespace Sys2Proof.Machine

open Sys2Proof.Claims

/-! ## The table of R171 -/

theorem exec_feedByte (b : Byte) {s : State} (hr : s.inReset = false) : exec (.feedByte b) s = receiveByte b s :=
  if_neg (Bool.eq_false_iff.mp hr)

/-- The row of a good frame is a frame, which is taken as its own meaning. -/
theorem takeFrame_frameRow (kind head : Byte) (payload : List Byte) (s : State) :
    takeFrame (frameRow kind head payload) s = exec (frameRow kind head payload) s := by
  refine frameRow_induction (P := fun i => takeFrame i s = exec i s) kind head payload rfl (fun _ => rfl) (fun _ => rfl)
    (fun c tag params _ => ?_) (fun _ _ _ => rfl) (fun _ => rfl) (fun _ _ _ => rfl)
  cases c <;> rfl

theorem receiveByte_hunt {s : State} (b : Byte) (h : s.fli.receive = .hunt) :
    receiveByte b s = .next (if b = 0xb5 then s.receiving .sync else s) := by
  rw [receiveByte, h]
  dsimp only
  split <;> rfl

theorem receiveByte_sync {s : State} (b : Byte) (h : s.fli.receive = .sync) :
    receiveByte b s = .next (if b = 0x4e then s.receiving (.header []) else if b = 0xb5 then s
      else s.receiving .hunt) := by
  rw [receiveByte, h]
  dsimp only
  split
  · rfl
  split <;> rfl

theorem receiveByte_header {s : State} (b : Byte) {stored : List Byte} (h : s.fli.receive = .header stored)
    (hshort : stored.length < 3) : receiveByte b s = .next (s.receiving (.header (stored ++ [b]))) := by
  rw [receiveByte, h]
  match stored, hshort with
  | [], _ | [_], _ | [_, _], _ => rfl

theorem receiveByte_headerDone {s : State} (b : Byte) {kind head hi : Byte}
    (h : s.fli.receive = .header [kind, head, hi]) :
    receiveByte b s = .next (s.headerDone kind head (hi.toNat * 256 + b.toNat)) := by
  rw [receiveByte, h, ← beNat_two]
  rfl

theorem receiveByte_payload {s : State} (b : Byte) {kind head : Byte} {length : Nat} {stored : List Byte}
    (h : s.fli.receive = .payload kind head length stored) (hmore : stored.length < length) :
    receiveByte b s = .next (if stored.length + 1 = length then s.receiving (.check kind head (stored ++ [b]) none)
      else s.receiving (.payload kind head length (stored ++ [b]))) := by
  have hlast : length ≤ stored.length + 1 ↔ stored.length + 1 = length := by omega
  rw [receiveByte, h]
  dsimp only
  simp only [State.payloadByte, hlast]

theorem receiveByte_check {s : State} (b : Byte) {kind head : Byte} {payload : List Byte}
    (h : s.fli.receive = .check kind head payload none) :
    receiveByte b s = .next (s.receiving (.check kind head payload (some b))) := by
  rw [receiveByte, h]

theorem receiveByte_frameEnd {s : State} (b : Byte) {kind head crcHigh : Byte} {payload : List Byte}
    (h : s.fli.receive = .check kind head payload (some crcHigh)) :
    receiveByte b s =
      if crc (covered kind head payload) = crcHigh ++ b then exec (frameRow kind head payload) (s.receiving .hunt)
      else .next s.crcError := by
  rw [receiveByte, h]
  dsimp only
  rw [frameEnd, takeFrame_frameRow]

theorem feedByteMovesReceiver : FeedByteMovesReceiver := by
  intro b s hr
  rw [exec_feedByte b hr]
  exact ⟨receiveByte_hunt b, receiveByte_sync b, fun _ => receiveByte_header b, fun _ _ _ => receiveByte_headerDone b,
    fun _ _ _ _ => receiveByte_payload b, fun _ _ _ => receiveByte_check b, fun _ _ _ _ => receiveByte_frameEnd b⟩

/-! ## The interval without a byte and the unknown kind (R172, R175) -/

theorem byteIntervalAbandonsFrame : ByteIntervalAbandonsFrame := by
  intro s hr
  have hexec : exec .byteIntervalTimeout s = .next s.intervalExpiry.arbitrate := serve_live State.intervalExpiry s hr
  rw [hexec, State.intervalExpiry]
  cases s.fli.receive with
  | hunt => exact ⟨fun _ => rfl, nofun, fun hne => absurd rfl hne⟩
  | sync => exact ⟨nofun, fun _ => rfl, fun _ hne => absurd rfl hne⟩
  | header | payload | check => exact ⟨nofun, nofun, fun _ _ => rfl⟩

theorem kindErrorIsCountedOnly : KindErrorIsCountedOnly :=
  fun _ s hr => serve_live (State.linkErrorOf .kind) s hr

/-- Settles O6, by the state of the receive side. -/
theorem feedLinkMovesByByteAndInterval : Obligations.FeedLinkMovesByByteAndInterval :=
  ⟨feedByteMovesReceiver, byteIntervalAbandonsFrame, kindErrorIsCountedOnly⟩

/-! ## The bytes of a frame, one by one -/

theorem andThen_feed_nil (r : Result) : andThen r (feed []) = r := by
  cases r <;> rfl

theorem State.receiving_self {s : State} {r : Receive} (h : s.fli.receive = r) : s.receiving r = s := by
  rw [← h]
  rfl

/-- The receive side with a part of a payload stored: in CHECK once the payload is whole. -/
def storing (kind head : Byte) (length : Nat) (stored : List Byte) : Receive :=
  if stored.length = length then .check kind head stored none else .payload kind head length stored

section Fed

variable {s : State}

/-- A byte that only moves the receive side is followed by the rest. -/
theorem feed_cons (hr : s.inReset = false) {b : Byte} {rest : List Byte} {r q : Receive}
    (h : receiveByte b (s.receiving r) = .next (s.receiving q)) :
    feed (b :: rest) (s.receiving r) = feed rest (s.receiving q) := by
  rw [feed, exec_feedByte b (s := s.receiving r) hr, h]
  rfl

theorem feed_preamble (hr : s.inReset = false) (rest : List Byte) :
    feed (0xb5 :: 0x4e :: rest) (s.receiving .hunt) = feed rest (s.receiving (.header [])) :=
  (feed_cons hr (receiveByte_hunt (s := s.receiving .hunt) 0xb5 rfl)).trans
    (feed_cons hr (receiveByte_sync (s := s.receiving .sync) 0x4e rfl))

/-- The four header bytes of a frame of at most 4096 payload bytes. -/
theorem feed_header (hr : s.inReset = false) (kind head hi lo : Byte) (rest : List Byte)
    (hmax : hi.toNat * 256 + lo.toNat ≤ 4096) :
    feed (kind :: head :: hi :: lo :: rest) (s.receiving (.header [])) =
      feed rest (s.receiving (storing kind head (hi.toNat * 256 + lo.toNat) [])) := by
  have hdone : (s.receiving (.header [kind, head, hi])).headerDone kind head (hi.toNat * 256 + lo.toNat) =
      s.receiving (storing kind head (hi.toNat * 256 + lo.toNat) []) := by
    have hsize : ¬ Config.maxPayload < hi.toNat * 256 + lo.toNat := Nat.not_lt.mpr hmax
    rw [State.headerDone, if_neg hsize, storing, List.length_nil]
    by_cases hzero : hi.toNat * 256 + lo.toNat = 0
    · rw [if_pos hzero, if_pos hzero.symm]
      rfl
    · rw [if_neg hzero, if_neg (Ne.symm hzero)]
      rfl
  have hstore : ∀ (b : Byte) (stored rest : List Byte), stored.length < 3 →
      feed (b :: rest) (s.receiving (.header stored)) = feed rest (s.receiving (.header (stored ++ [b]))) :=
    fun b stored _ hshort => feed_cons hr (receiveByte_header (s := s.receiving (.header stored)) b rfl hshort)
  calc feed (kind :: head :: hi :: lo :: rest) (s.receiving (.header []))
      = feed (head :: hi :: lo :: rest) (s.receiving (.header [kind])) := hstore kind [] _ (by simp)
    _ = feed (hi :: lo :: rest) (s.receiving (.header [kind, head])) := hstore head [kind] _ (by simp)
    _ = feed (lo :: rest) (s.receiving (.header [kind, head, hi])) := hstore hi [kind, head] _ (by simp)
    _ = _ := feed_cons hr ((receiveByte_headerDone (s := s.receiving (.header [kind, head, hi])) lo rfl).trans
        (congrArg _ hdone))

theorem feed_payload (hr : s.inReset = false) (kind head : Byte) (length : Nat) (bytes rest stored : List Byte)
    (hlength : stored.length + bytes.length = length) :
    feed (bytes ++ rest) (s.receiving (storing kind head length stored)) =
      feed rest (s.receiving (storing kind head length (stored ++ bytes))) := by
  induction bytes generalizing stored with
  | nil => rw [List.append_nil, List.nil_append]
  | cons b bytes ih =>
    rw [List.length_cons] at hlength
    have hpart : storing kind head length stored = .payload kind head length stored := if_neg (by omega)
    have hbyte : receiveByte b (s.receiving (storing kind head length stored)) =
        .next (s.receiving (storing kind head length (stored ++ [b]))) := by
      rw [hpart, receiveByte_payload b rfl (by omega), storing, List.length_append, List.length_singleton]
      split <;> rfl
    have hrest : (stored ++ [b]).length + bytes.length = length := by
      rw [List.length_append, List.length_singleton]
      omega
    rw [List.cons_append, feed_cons hr hbyte, ih (stored ++ [b]) hrest, List.append_assoc, List.singleton_append]

/-- The two CRC bytes of a good frame take it. -/
theorem feed_crc (hr : s.inReset = false) (kind head : Byte) (payload : List Byte) {hi lo : Byte}
    (hcrc : crc (covered kind head payload) = hi ++ lo) :
    feed [hi, lo] (s.receiving (.check kind head payload none)) =
      exec (frameRow kind head payload) (s.receiving .hunt) := by
  rw [feed_cons hr (receiveByte_check (s := s.receiving (.check kind head payload none)) hi rfl), feed,
    andThen_feed_nil, exec_feedByte lo (s := s.receiving (.check kind head payload (some hi))) hr,
    receiveByte_frameEnd lo rfl, if_pos hcrc]
  rfl

end Fed

/-- The two bytes of a two-byte quantity, put together, are the quantity. -/
theorem append_of_be16 (x : Half) : x = BitVec.ofNat 8 (x.toNat / 256) ++ BitVec.ofNat 8 x.toNat := by
  have hx := x.isLt
  apply BitVec.eq_of_toNat_eq
  rw [BitVec.toNat_append, BitVec.toNat_ofNat, BitVec.toNat_ofNat, ← Nat.shiftLeft_add_eq_or_of_lt (by omega),
    Nat.shiftLeft_eq]
  omega

/-- Settles O8: preamble, header, payload and CRC in turn. -/
theorem frameSentIsFrameTaken : Obligations.FrameSentIsFrameTaken := by
  intro kind head payload s hr hhunt hsize
  have hself : s.receiving .hunt = s := State.receiving_self hhunt
  have hlength : (BitVec.ofNat 8 (payload.length / 256)).toNat * 256 + (BitVec.ofNat 8 payload.length).toNat =
      payload.length := by
    rw [BitVec.toNat_ofNat, BitVec.toNat_ofNat]
    omega
  have hwhole : storing kind head payload.length payload = .check kind head payload none := if_pos rfl
  rw [← hself]
  show feed (0xb5 :: 0x4e :: kind :: head :: BitVec.ofNat 8 (payload.length / 256) :: BitVec.ofNat 8 payload.length ::
    (payload ++ be16 (crc (covered kind head payload)).toNat)) (s.receiving .hunt) = _
  rw [feed_preamble hr, feed_header hr _ _ _ _ _ (hlength.symm ▸ hsize), hlength,
    feed_payload hr kind head payload.length payload _ [] (Nat.zero_add _), List.nil_append, hwhole]
  exact feed_crc hr kind head payload (append_of_be16 _)

end Sys2Proof.Machine
end

section
/-! The full reset, the soft reset, and the state after a reset (O3, O4, O5). -/

namespace Sys2Proof.Machine

open Sys2Proof.Claims

/-! ## The full reset (R193 to R195) -/

theorem fullResetClearsEveryBlock : FullResetClearsEveryBlock :=
  fun _ => ⟨rfl, rfl, rfl⟩

theorem State.leaveHeld_held {s : State} (h : s.inReset = true) : s.leaveHeld = s := if_pos h

theorem State.leaveHeld_free {s : State} (h : s.inReset = false) : s.leaveHeld = s.endReset :=
  if_neg (Bool.eq_false_iff.mp h)

theorem exec_resetNRelease {s : State} (h : s.lines.resetN = false) :
    exec .resetNRelease s = .next (State.leaveHeld { s with lines := { s.lines with resetN := true } }) :=
  if_neg (Bool.eq_false_iff.mp h)

theorem exec_powerOnRelease {s : State} (h : s.lines.powerHeld = true) :
    exec .powerOnRelease s = .next (State.leaveHeld { s with lines := { s.lines with powerHeld := false } }) :=
  if_pos h

/-- The first of the two releases leaves the part held, and the second ends the reset. -/
theorem heldResetEndsAtItsRelease : HeldResetEndsAtItsRelease := by
  intro s
  refine ⟨fun hn hp => ⟨?_, ?_⟩, fun hn hp => ?_, fun hn hp => ?_⟩
  · rw [exec_resetNRelease hn, State.leaveHeld_held (by simp [State.inReset, hp])]
  · rw [exec_powerOnRelease hp, State.leaveHeld_held (by simp [State.inReset, hn])]
  · rw [exec_resetNRelease hn, State.leaveHeld_free (by simp [State.inReset, hp])]
    rfl
  · rw [exec_powerOnRelease hp, State.leaveHeld_free (by simp [State.inReset, hn])]
    rfl

theorem heldResetIgnoresEvents : HeldResetIgnoresEvents := by
  intro s hr
  refine ⟨fun c hc => exec_of_held c hc s hr, fun level => if_pos hr, fun level => ?_, fun bank => if_pos hr⟩
  exact serve_held State.actFeedFault { s with lines := { s.lines with feedFault := level } } hr

/-- Settles O3, one part for each of the three. -/
theorem fullResetHoldsPartUntilReleased : Obligations.FullResetHoldsPartUntilReleased :=
  ⟨fullResetClearsEveryBlock, heldResetEndsAtItsRelease, heldResetIgnoresEvents⟩

/-! ## The soft reset (R191) -/

theorem Slot.softReset_eq_match (v : Slot) : v.softReset =
    match v.state with
    | .empty => v
    | .committing => ⟨.empty, [], 0, 0⟩
    | .valid => v
    | .bound => { v with state := .valid } := by
  rcases v with ⟨state, entries, sum1, sum2⟩
  cases state <;> rfl

/-- Settles O4: with parameters RESET fails the length check, and without them it is answered as the soft reset. -/
theorem softResetKeepsTablesSettingsAndWear : Obligations.SoftResetKeepsTablesSettingsAndWear := by
  refine fun tag s hr => ⟨fun params hparams => ?_, ?_⟩
  · exact command_wrongLength .reset tag params _ s hr (fun hlength => hparams (List.length_eq_zero_iff.mp hlength))
  · refine (command_answers .reset tag [] softReset s hr rfl (fun _ => rfl)).trans ?_
    rw [softReset, answerOf_mk, State.softReset, Store.softReset, Store.mapSlots,
      funext Slot.softReset_eq_match]
    rfl

/-! ## The state after a full reset (R208) -/

theorem State.reset_engageExact : State.reset.EngageExact := by
  intro h
  have hblank : State.reset.channels.get h = Channel.afterReset := PerHead.get_const _ h
  rw [State.channelState, hblank]
  rfl

theorem State.reset_historiesOrdered : State.reset.HistoriesOrdered := by
  intro h
  have hblank : State.reset.monitors.get h = Monitor.afterReset := PerHead.get_const _ h
  rw [hblank]
  exact historyOrdered_nil _

theorem State.reset_queuesShaped : State.reset.QueuesShaped := by
  intro h
  have hblank : State.reset.queues.get h = Queue.afterReset := PerHead.get_const _ h
  rw [hblank]
  exact Queue.afterReset_shaped

theorem State.reset_tablesChecked : State.reset.TablesChecked := by
  refine .of Store.afterReset_checked (fun h p hp => ?_)
  have hnone : (State.reset.cals.get h).proposal = none :=
    congrArg Calibration.proposal (PerHead.get_const Calibration.afterReset h)
  rw [hnone] at hp
  cases hp

/-- The job and its seats are those of a full reset. -/
theorem State.reset_jobCoherent : State.reset.JobCoherent :=
  State.reset.jobCoherent_iff.mpr State.reset.fullReset_coherent

theorem State.reset_bindingExact : State.reset.BindingExact :=
  State.reset.fullReset_binding.congr rfl rfl

/-- Settles O5, one part for each invariant. -/
theorem resetStateIsSafe : Obligations.ResetStateIsSafe :=
  ⟨State.reset_engageExact, ⟨Nat.zero_le 8, Nat.zero_le 32, fun _ => ⟨rfl, rfl⟩⟩, trivial,
    State.reset_historiesOrdered, Store.afterReset_wf, State.reset_tablesChecked, State.reset_queuesShaped,
    State.reset_jobCoherent, State.reset_bindingExact, Nat.zero_le _, fun _ => rfl, rfl⟩

end Sys2Proof.Machine
end

section
/-! The refusals common to every command, IDENTIFY and STATUS SNAPSHOT (O12, O13). -/

namespace Sys2Proof.Machine

open Sys2Proof.Claims

/-! ## The common checks (R180, R181) -/

/-- The row of a command code is the command of that code. -/
theorem exec_commandOf (c : CommandName) (tag : Half) (params : List Byte) :
    ∃ body, ∀ s, exec (commandOf (commandCode c) tag params) s = command c tag params body s := by
  cases c <;> exact ⟨_, fun _ => rfl⟩

theorem wrongLengthIsAnsweredWithRequiredLength : WrongLengthIsAnsweredWithRequiredLength := by
  intro c tag params s hr hlength
  obtain ⟨body, hexec⟩ := exec_commandOf c tag params
  rw [hexec]
  exact command_wrongLength c tag params body s hr hlength

/-- The refusal of an ARM gives its step besides the job state (R184; log entry 15). -/
theorem stateRefusal_eq (c : CommandName) (j : JobState) :
    stateRefusal c j = be8 (jobStateCode j) ++ (if c = .arm then [1] else []) := by
  cases c with
  | arm => rfl
  | _ => exact (List.append_nil _).symm

theorem unavailableCommandIsAnsweredState : UnavailableCommandIsAnsweredState := by
  intro c tag params s hr hlength havailable
  obtain ⟨body, hexec⟩ := exec_commandOf c tag params
  rw [hexec, ← stateRefusal_eq]
  exact command_unavailable c tag params body s hr hlength havailable

theorem unknownAndShortCommandsAreAnswered : UnknownAndShortCommandsAreAnswered :=
  fun s hr => ⟨fun _ _ => serve_live _ s hr, serve_live _ s hr, fun _ _ => serve_live _ s hr⟩

/-- Settles O12, one part for each refusal. -/
theorem refusedCommandsChangeNothing : Obligations.RefusedCommandsChangeNothing :=
  ⟨wrongLengthIsAnsweredWithRequiredLength, unavailableCommandIsAnsweredState, unknownAndShortCommandsAreAnswered⟩

/-! ## IDENTIFY and STATUS SNAPSHOT (R190, R202, R203) -/

theorem identifyChangesNothing : IdentifyChangesNothing :=
  fun tag s hr => command_answers .identify tag [] identify s hr rfl (fun _ => rfl)

theorem lastStopByte_eq (cause : Option StopCause) : lastStopByte cause =
    match cause with
    | none => [0]
    | some cause => be8 (stopCauseCode cause) := by
  cases cause <;> rfl

theorem resolvedByte_eq (source : Option ResolvedSource) : be8 (resolvedCode source) =
    match source with
    | some .line => [0]
    | some .count => [1]
    | none => [0xff] := by
  rcases source with _ | _ | _ <;> rfl

theorem jobTagBytes_eq (s : State) : be16 s.jobTag =
    match s.job.record with
    | some r => be16 r.tag
    | none => [0, 0] := by
  rw [State.jobTag]
  cases s.job.record <;> rfl

theorem snapshotHead_eq (s : State) (h : Head) : snapshotHead s h = headCapture s h := by
  simp only [snapshotHead, headCapture, lastStopByte_eq, flagByte_eq_yes, optionalItem_eq_maybe, countsBytes,
    List.append_assoc]
  rfl

/-- The capture of the snapshot, item by item. -/
theorem snapshotBytes_eq (s : State) : snapshotBytes s = capture s := by
  unfold capture
  simp only [snapshotBytes, snapshotJob, snapshotCylinder, snapshotLines, snapshotStore, snapshotReports,
    Rpt.flagBytes, allHeads, List.flatMap_cons, List.flatMap_nil, List.append_nil, snapshotHead_eq, flagByte_eq_yes,
    optionalItem_eq_maybe, resolvedByte_eq, jobTagBytes_eq, slotByte, headSetByte, List.append_assoc, List.cons_append,
    List.nil_append] <;> rfl

theorem snapshotCapturesPartAndClearsFlags : SnapshotCapturesPartAndClearsFlags := by
  intro tag s hr
  rw [← snapshotBytes_eq]
  exact command_answers .statusSnapshot tag [] statusSnapshot s hr rfl (fun _ => rfl)

/-- Settles O13, one part for each command. -/
theorem identifyAndSnapshotReportPart : Obligations.IdentifyAndSnapshotReportPart :=
  ⟨identifyChangesNothing, snapshotCapturesPartAndClearsFlags⟩

end Sys2Proof.Machine
end

section
/-! Every row answers a next state, and a step is the row at the front of the queue (O1, O2). -/

namespace Sys2Proof.Machine

open Sys2Proof.Claims

/-! ## Every row answers -/

theorem serve_completes (f : State → State) (s : State) : ∃ t, serve f s = .next t := by
  unfold serve
  split <;> exact ⟨_, rfl⟩

/-- A frame's row is an event that the return arbiter ends; a row that is no frame is not taken as one. -/
theorem takeFrame_served (c : Instr) :
    (∀ s, takeFrame c s = .next s) ∨ ∃ f, ∀ s, takeFrame c s = serve f s := by
  cases c with
  | feedByte _ | byteIntervalTimeout | returnFrameSent | commitCompletion | forwardCount _ | reverseCount
  | indexPulse _ | stall | measurementTimeout _ | estop _ | feedFault _ | bankChange _ | monitorSample _ _ _
  | resetNAssert | resetNRelease | powerOn | powerOnRelease | supplyFall => exact .inl fun _ => rfl
  | _ => exact .inr ⟨_, fun _ => rfl⟩

theorem takeFrame_completes (c : Instr) (s : State) : ∃ t, takeFrame c s = .next t := by
  rcases takeFrame_served c with hnone | ⟨f, hserve⟩
  · exact ⟨s, hnone s⟩
  · rw [hserve]
    exact serve_completes f s

/-- In every state of the receive side a byte moves it on, gives a frame up, or ends a frame, whose row then
answers. -/
theorem receiveByte_completes (b : Byte) (s : State) : ∃ t, receiveByte b s = .next t := by
  unfold receiveByte
  split
  · split <;> exact ⟨_, rfl⟩
  · repeat' split
    all_goals exact ⟨_, rfl⟩
  · exact ⟨_, rfl⟩
  · exact ⟨_, rfl⟩
  · exact ⟨_, rfl⟩
  · unfold frameEnd
    split
    · exact takeFrame_completes _ _
    · exact ⟨_, rfl⟩

theorem exec_line_completes (c : Instr) (hc : (rowClass c).changesLines = true) (s : State) :
    ∃ t, exec c s = .next t := by
  cases c with
  | estop level =>
    show ∃ t, execEstop level s = .next t
    unfold execEstop
    split
    · exact ⟨_, rfl⟩
    split
    · exact ⟨_, rfl⟩
    · exact serve_completes _ _
  | feedFault level =>
    show ∃ t, execFeedFault level s = .next t
    exact serve_completes _ _
  | bankChange bank =>
    show ∃ t, execBankChange bank s = .next t
    unfold execBankChange
    split
    · exact ⟨_, rfl⟩
    split
    · exact ⟨_, rfl⟩
    · exact serve_completes _ _
  | resetNRelease =>
    show ∃ t, execResetNRelease s = .next t
    unfold execResetNRelease
    split <;> exact ⟨_, rfl⟩
  | powerOnRelease =>
    show ∃ t, execPowerOnRelease s = .next t
    unfold execPowerOnRelease
    split <;> exact ⟨_, rfl⟩
  | resetNAssert | powerOn | supplyFall => exact ⟨_, rfl⟩
  | _ => cases hc

theorem exec_feedByte_completes (b : Byte) (s : State) : ∃ t, exec (.feedByte b) s = .next t := by
  cases hr : s.inReset with
  | true => exact ⟨s, exec_of_held (.feedByte b) rfl s hr⟩
  | false =>
    rw [exec_feedByte b hr]
    exact receiveByte_completes b s

/-- No row ends in a fault or a refusal. -/
theorem exec_completes (c : Instr) (s : State) : ∃ t, exec c s = .next t := by
  rcases exec_served c with hline | hfeed | ⟨f, hserve⟩
  · exact exec_line_completes c hline s
  · cases c with
    | feedByte b => exact exec_feedByte_completes b s
    | _ => cases hfeed
  · rw [hserve]
    exact serve_completes f s

/-! ## The queue of waiting events -/

/-- No move touches the queue of waiting events. -/
theorem Moves.pending_eq {s t : State} (h : Moves s t) : t.pending = s.pending := by
  induction h with
  | trans _ _ ihs iht => exact iht.trans ihs
  | emit h k s =>
    obtain ⟨-, -, -, -, -, -, -, -, hpending⟩ := s.emit_frame h k
    exact hpending
  | refl | free | link | channels | monitors | queues | cals | store | fullReset => rfl

/-- Settles O2: every row answers, and every answer is a chain of moves. -/
theorem everyEventCompletes : Obligations.EveryEventCompletes := by
  intro c s
  obtain ⟨t, ht⟩ := exec_completes c s
  exact ⟨t, ht, (exec_moves c s t ht).pending_eq⟩

/-! ## A step -/

/-- A step with an event waiting is that event's row on the queue's rest. -/
theorem stepTakesFrontEvent : StepTakesFrontEvent := by
  intro c rest s hpending
  rw [step, hpending]

theorem emptyQueueIdles : EmptyQueueIdles := by
  intro s hpending
  rw [step, hpending]

/-- Settles O1, by the two shapes of the queue. -/
theorem stepRunsFrontEventOrIdles : Obligations.StepRunsFrontEventOrIdles :=
  ⟨stepTakesFrontEvent, emptyQueueIdles⟩

end Sys2Proof.Machine
end
